-- ==== Sys2Proof/Word.lean ====
section
/-! DEFINITION. The word types of MSD1 (00_scope R10): unsigned integers of fixed width, and binary64 values
held as their IEEE 754 bit patterns (00_scope R16). -/

namespace Sys2Proof

/-- u8 of 00_scope R10. -/
abbrev Byte := BitVec 8
/-- u24, a 24-bit address or checksum. -/
abbrev U24 := BitVec 24
/-- u32. -/
abbrev U32 := BitVec 32
/-- u64, a register, an operand or a time in milliseconds (R19). -/
abbrev U64 := BitVec 64
/-- One IEEE 754 binary64 value, as its 64-bit pattern (00_scope R16, 10_state R42). -/
abbrev F64 := BitVec 64

end Sys2Proof
end

