-- ==== Sys2Proof/Config.lean ====
section
/-! DEFINITION. What an implementation fixes: the named parameters of 00_scope R7 at the defaults MSD1 takes (log 17),
and the open values of the spec as constants without a body (logs 8 to 11): nothing in Lean can evaluate them, so a claim
proved of the model holds whatever they are. -/

namespace Sys2Proof.Config

/-- Bytes of sample RAM (00_scope R7). -/
abbrev SAMPLE_RAM_BYTES : Nat := 262622
/-- Divisor of the pulse-peak sum (41_preamble R181). -/
abbrev QUIET_DIVISOR : Nat := 4

/-- Which sample of the next bit pair phase correction scales (41_preamble R188). -/
inductive PhaseTarget where
  | high
  | low
  deriving DecidableEq, Repr

/-- PHASE_TARGET (00_scope R7). -/
abbrev PHASE_TARGET : PhaseTarget := .high
/-- PHASE_GATE: true is ON (41_preamble R183). -/
abbrev PHASE_GATE : Bool := false
/-- Error bits tolerated in aggressive mode (42_bitslicer R203). -/
abbrev AGGR_MAX_ERRBITS : Nat := 2
/-- Minimum mean separation per bit (42_bitslicer R205). -/
abbrev ENERGY_MIN : Nat := 1275
/-- DF values from here on are 112-bit frames (42_bitslicer R204). -/
abbrev LONG_DF_MIN : Nat := 16
/-- Slots of the ICAO cache (43_checksum R230). -/
abbrev ICAO_CACHE_LEN : Nat := 1024
/-- Cache lifetime in milliseconds (43_checksum R232). -/
abbrev ICAO_CACHE_TTL_MS : Nat := 60000
/-- Pairing window, airborne (45_cpr R301). -/
abbrev CPR_PAIR_WINDOW_AIR_MS : Nat := 10000
/-- Pairing window, surface (45_cpr R301). -/
abbrev CPR_PAIR_WINDOW_SURF_MS : Nat := 50000
/-- Maximum age of a track's own fix as a local reference (45_cpr R299). -/
abbrev LOCAL_REF_MAX_AGE_MS : Nat := 600000
/-- Largest MAX_RANGE_M for which home is a local reference, airborne (45_cpr R299). -/
abbrev HOME_HALF_CELL_AIR_M : Nat := 333360
/-- The same, surface. -/
abbrev HOME_HALF_CELL_SURF_M : Nat := 83340
/-- Assumed speed when none is known, airborne (45_cpr R305). -/
abbrev SPEED_DEFAULT_AIR_KT : Nat := 600
/-- The same, surface. -/
abbrev SPEED_DEFAULT_SURF_KT : Nat := 100
/-- Distance allowance, airborne (45_cpr R305). -/
abbrev SPEED_BASE_AIR_M : Nat := 500
/-- The same, surface. -/
abbrev SPEED_BASE_SURF_M : Nat := 100
/-- Sphere radius (45_cpr R302). -/
abbrev EARTH_RADIUS_M : Nat := 6371000
/-- Track table slots (10_state R49). -/
abbrev MAX_TRACKS : Nat := 1024
/-- Reset value of register TRACK_TTL_MS (10_state R44). -/
abbrev TRACK_TTL_RESET_MS : Nat := 60000
/-- Output message FIFO entries (10_state R51). -/
abbrev MSG_FIFO_DEPTH : Nat := 64

/-- Magnitude words of M (20_memory R81). -/
abbrev MAG_WORDS : Nat := SAMPLE_RAM_BYTES / 2

/-- SIN, a configuration function: it depends on its operand alone (00_scope R16, log 8). -/
opaque SIN : F64 → F64
/-- COS (00_scope R16, log 8). -/
opaque COS : F64 → F64
/-- ASIN (00_scope R16, log 8). -/
opaque ASIN : F64 → F64
/-- ATAN2 (00_scope R16, log 8). -/
opaque ATAN2 : F64 → F64 → F64

/-- The sign of the NaN an operation on these operands makes; IEEE 754 leaves it open (log 9). -/
opaque nanSign : F64 → F64 → Bool
/-- The payload of that NaN, below its quiet bit (log 9). -/
opaque nanPayload : F64 → F64 → BitVec 51
/-- floor of a NaN or an infinity: the spec states no integer for it (log 10). -/
opaque floorNonFinite : F64 → Int
/-- min of two values one of which is a NaN: the spec states no result (log 11). -/
opaque minOfNaN : F64 → F64 → F64
/-- max of two values one of which is a NaN: the spec states no result (log 11). -/
opaque maxOfNaN : F64 → F64 → F64

end Sys2Proof.Config
end

