-- ==== Sys2Proof/Machine/Magnitude.lean ====
section
/-! DEFINITION. SampleMagnitude: the magnitude of one I/Q sample (40_magnitude R170, R171), in exact integer arithmetic. -/

namespace Sys2Proof.Machine

/-- The integer square root of n below 2^bits, one result bit per round from the highest. -/
def isqrtFrom (n : Nat) : Nat → Nat → Nat
  | 0, r => r
  | b + 1, r => isqrtFrom n b (if (r + 2 ^ b) * (r + 2 ^ b) ≤ n then r + 2 ^ b else r)

/-- floor(sqrt(n)) for every n below 2^(2·bits). -/
def isqrt (bits n : Nat) : Nat := isqrtFrom n bits 0

/-- round(sqrt(n)) for n below 2^34: r + 1/2 is not above sqrt(n) iff n - r·r > r. -/
def roundSqrt (n : Nat) : Nat :=
  let r := isqrt 17 n
  if n - r * r > r then r + 1 else r

/-- MAGLUT[a][b] = round(360 · sqrt(a² + b²)) (40_magnitude R170): 360 · sqrt(s) is sqrt(129600 · s). -/
def magLut (a b : Nat) : BitVec 16 := BitVec.ofNat 16 (roundSqrt (129600 * (a * a + b * b)))

/-- The distance of a sample byte from the centre value 127 (40_magnitude R171), 0 to 128. -/
def centred (x : Byte) : Nat := ((x.toNat : Int) - 127).natAbs

/-- MAG(i, q) of 40_magnitude R171. -/
def magOf (i q : Byte) : BitVec 16 := magLut (centred i) (centred q)

end Sys2Proof.Machine
end

