-- ==== Sys2Proof/Machine/Float64.lean ====
section
/-! DEFINITION. IEEE 754 binary64 arithmetic (00_scope R16, 45_cpr R290): round to nearest, ties to even, on bit patterns.
Every finite value is a whole number of units of 2^-1074, so every operation is exact on integers and rounded once. -/

namespace Sys2Proof.Machine

/-- The biased exponent field. -/
def F64.expField (x : F64) : Nat := (x.extractLsb' 52 11).toNat

/-- The fraction field. -/
def F64.frac (x : F64) : Nat := (x.extractLsb' 0 52).toNat

/-- The sign bit: true is negative. -/
def F64.neg? (x : F64) : Bool := x.msb

/-- x is a NaN. -/
def F64.isNaN (x : F64) : Bool := F64.expField x == 2047 && F64.frac x != 0

/-- x is an infinity. -/
def F64.isInf (x : F64) : Bool := F64.expField x == 2047 && F64.frac x == 0

/-- x is finite. -/
def F64.isFinite (x : F64) : Bool := F64.expField x != 2047

/-- abs(x) in units of 2^-1074. (An infinity gives a number above every finite one.) -/
def F64.units (x : F64) : Nat :=
  if F64.expField x = 0 then F64.frac x else (2 ^ 52 + F64.frac x) <<< (F64.expField x - 1)

/-- x in units of 2^-1074. -/
def F64.signedUnits (x : F64) : Int := if F64.neg? x then -(F64.units x : Int) else (F64.units x : Int)

/-- One unit is 2^-1074: this many units are 1.0. -/
def F64.one : Nat := 2 ^ 1074

/-- a / d rounded to the nearest integer, ties to even. -/
def F64.roundHalfEven (a d : Nat) : Nat :=
  let q := a / d
  let r := 2 * (a % d)
  if r < d then q else if d < r then q + 1 else q + q % 2

/-- The binary64 value nearest to (a / d) units, ties to even, with the given sign; an infinity from the overflow
threshold on. -/
def F64.round (neg : Bool) (a d : Nat) : F64 :=
  let sh := (a / d).log2 - 52
  let m := sh * 2 ^ 52 + F64.roundHalfEven a (d <<< sh)
  BitVec.ofNat 64 ((if neg then 2 ^ 63 else 0) + min m (2047 * 2 ^ 52))

/-- A quiet NaN; IEEE 754 leaves its sign and payload open (log 9). -/
def F64.nan (a b : F64) : F64 :=
  BitVec.ofNat 64 ((if Config.nanSign a b then 2 ^ 63 else 0) + 4095 * 2 ^ 51 + (Config.nanPayload a b).toNat)

/-- The infinity of the given sign. -/
def F64.inf (neg : Bool) : F64 := BitVec.ofNat 64 ((if neg then 2 ^ 63 else 0) + 2047 * 2 ^ 52)

/-- The zero of the given sign. -/
def F64.zero (neg : Bool) : F64 := BitVec.ofNat 64 (if neg then 2 ^ 63 else 0)

/-- −x. -/
def F64.negate (x : F64) : F64 := x ^^^ BitVec.ofNat 64 (2 ^ 63)

/-- abs(x). -/
def F64.abs (x : F64) : F64 := x &&& BitVec.ofNat 64 (2 ^ 63 - 1)

/-- x + y. -/
def F64.add (x y : F64) : F64 :=
  if F64.isNaN x || F64.isNaN y then F64.nan x y
  else if F64.isInf x then (if F64.isInf y && F64.neg? x != F64.neg? y then F64.nan x y else x)
  else if F64.isInf y then y
  else
    let s := F64.signedUnits x + F64.signedUnits y
    if s = 0 then F64.zero (F64.neg? x && F64.neg? y) else F64.round (decide (s < 0)) s.natAbs 1

/-- x − y. -/
def F64.sub (x y : F64) : F64 :=
  if F64.isNaN x || F64.isNaN y then F64.nan x y else F64.add x (F64.negate y)

/-- x · y. -/
def F64.mul (x y : F64) : F64 :=
  if F64.isNaN x || F64.isNaN y then F64.nan x y
  else
    let neg := F64.neg? x != F64.neg? y
    if F64.isInf x || F64.isInf y then
      (if F64.units x = 0 || F64.units y = 0 then F64.nan x y else F64.inf neg)
    else F64.round neg (F64.units x * F64.units y) F64.one

/-- x / y. -/
def F64.div (x y : F64) : F64 :=
  if F64.isNaN x || F64.isNaN y then F64.nan x y
  else
    let neg := F64.neg? x != F64.neg? y
    if F64.isInf x then (if F64.isInf y then F64.nan x y else F64.inf neg)
    else if F64.isInf y then F64.zero neg
    else if F64.units y = 0 then (if F64.units x = 0 then F64.nan x y else F64.inf neg)
    else F64.round neg (F64.units x * F64.one) (F64.units y)

/-- sqrt(x), correctly rounded (90_conflicts C14). A root of at least 54 bits is taken and a last half unit marks an
inexact one, which decides every rounding as the exact root would. -/
def F64.sqrt (x : F64) : F64 :=
  if F64.isNaN x then F64.nan x x
  else if F64.units x = 0 then x
  else if F64.neg? x then F64.nan x x
  else if F64.isInf x then x
  else
    let n := F64.units x * F64.one
    let k := (n.log2 - 110) / 2
    let r := isqrt 57 (n >>> (2 * k))
    let sticky := if (r * r) <<< (2 * k) = n then 0 else 1
    F64.round false ((2 * r + sticky) <<< k) 2

/-- An integer as binary64, exact below 2^53 (00_scope R16; log 12). -/
def F64.ofInt (i : Int) : F64 := F64.round (decide (i < 0)) (i.natAbs * F64.one) 1

/-- A natural number as binary64. -/
def F64.ofNat (n : Nat) : F64 := F64.round false (n * F64.one) 1

/-- floor(x), the largest integer not above x (00_scope R10). -/
def F64.floor (x : F64) : Int :=
  if F64.isFinite x then
    (if F64.neg? x then -(((F64.units x + (F64.one - 1)) / F64.one : Nat) : Int) else ((F64.units x / F64.one : Nat) : Int))
  else Config.floorNonFinite x

/-- fmod(x, y), the exact remainder with the sign of x (00_scope R16). -/
def F64.fmod (x y : F64) : F64 :=
  if F64.isNaN x || F64.isNaN y || F64.isInf x || F64.units y = 0 then F64.nan x y
  else if F64.isInf y then x
  else
    let r := F64.units x % F64.units y
    if r = 0 then F64.zero (F64.neg? x) else F64.round (F64.neg? x) r 1

/-- x < y; false when either is a NaN. -/
def F64.lt (x y : F64) : Bool :=
  !F64.isNaN x && !F64.isNaN y && decide (F64.signedUnits x < F64.signedUnits y)

/-- x ≤ y; false when either is a NaN. -/
def F64.le (x y : F64) : Bool :=
  !F64.isNaN x && !F64.isNaN y && decide (F64.signedUnits x ≤ F64.signedUnits y)

/-- x = y as numbers (+0 equals −0); false when either is a NaN. -/
def F64.eq (x y : F64) : Bool :=
  !F64.isNaN x && !F64.isNaN y && decide (F64.signedUnits x = F64.signedUnits y)

/-- min(x, y); with a NaN operand the spec states no result (log 11). -/
def F64.min (x y : F64) : F64 :=
  if F64.isNaN x || F64.isNaN y then Config.minOfNaN x y else if F64.lt y x then y else x

/-- max(x, y); with a NaN operand the spec states no result (log 11). -/
def F64.max (x y : F64) : F64 :=
  if F64.isNaN x || F64.isNaN y then Config.maxOfNaN x y else if F64.lt x y then y else x

/-- fmodp(a, b) of 00_scope R17: the non-negative floating remainder. -/
def F64.fmodp (a b : F64) : F64 :=
  let r := F64.fmod a b
  if F64.lt r (F64.zero false) then F64.add r b else r

/-- The binary64 nearest to pi (00_scope R16). -/
def F64.pi : F64 := 0x400921FB54442D18#64

/-- RAD(x) = (x · π) / 180 (00_scope R16, 90_conflicts C16). -/
def F64.rad (x : F64) : F64 := F64.div (F64.mul x F64.pi) (F64.ofNat 180)

/-- DEG(x) = (x · 180) / π (00_scope R16). -/
def F64.deg (x : F64) : F64 := F64.div (F64.mul x (F64.ofNat 180)) F64.pi

/-- norm_lon(x) = x − floor((x + 180)/360) · 360, into [−180, 180) (00_scope R17). -/
def F64.normLon (x : F64) : F64 :=
  F64.sub x (F64.ofInt (F64.floor (F64.div (F64.add x (F64.ofNat 180)) (F64.ofNat 360)) * 360))

end Sys2Proof.Machine
end

