-- ==== Sys2Proof/Machine/Sparse.lean ====
section
/-! DEFINITION. Sparse tables: a list of (index, value) pairs in ONE canonical form, indexes strictly rising. Sample RAM,
the ICAO cache and the track table are held this way, so that equal tables are equal data. -/

namespace Sys2Proof.Machine

/-- A sparse table of values under natural-number indexes. -/
abbrev Sparse (α : Type) := List (Nat × α)

/-- The canonical form: indexes strictly rising. -/
abbrev Sparse.wf {α : Type} (m : Sparse α) : Prop := m.Pairwise (fun x y => x.1 < y.1)

/-- The value under an index, if one is listed. -/
def Sparse.lookup {α : Type} : Sparse α → Nat → Option α
  | [], _ => none
  | (k, v) :: r, a => if k = a then some v else Sparse.lookup r a

/-- The table with the value under one index set, keeping the canonical form. -/
def Sparse.put {α : Type} : Sparse α → Nat → α → Sparse α
  | [], a, v => [(a, v)]
  | (k, x) :: r, a, v =>
    if a < k then (a, v) :: (k, x) :: r
    else if a = k then (a, v) :: r
    else (k, x) :: Sparse.put r a v

/-- The table with one index no longer listed. -/
def Sparse.drop {α : Type} (m : Sparse α) (a : Nat) : Sparse α :=
  m.filter (fun e => e.1 != a)

end Sys2Proof.Machine
end

