-- ==== Sys2Proof/Syntax.lean ====
section
/-! DEFINITION. The instructions of MSD1: one constructor for every row of spec/opcode_table.json. The host commands carry
the operands they use (30_encoding R110, R111); the downlink formats carry the fields of their layouts (R121 to R127,
R134), except the bits their row fixes; the ME messages carry the head of their verified DF17 frame and the fields of
their own layouts (R128 to R133). -/

namespace Sys2Proof

/-- The bits a correction flipped (10_state R51): frame bit positions, 0-based. -/
inductive BitFix where
  | none
  | single (p : BitVec 7)
  | double (p1 p2 : BitVec 7)
  deriving DecidableEq, Repr

/-- DF0, short air-air surveillance (30_encoding R123), after the DF field. -/
structure AirAirShort where
  vs : BitVec 1
  cc : BitVec 1
  spare8 : BitVec 1
  sl : BitVec 3
  spare12 : BitVec 2
  ri : BitVec 4
  spare18 : BitVec 2
  ac : BitVec 13
  ap : BitVec 24
  deriving DecidableEq, Repr

/-- DF16, long air-air surveillance (30_encoding R123). -/
structure AirAirLong where
  vs : BitVec 1
  spare7 : BitVec 2
  sl : BitVec 3
  spare12 : BitVec 2
  ri : BitVec 4
  spare18 : BitVec 2
  ac : BitVec 13
  mv : BitVec 56
  ap : BitVec 24
  deriving DecidableEq, Repr

/-- DF4, surveillance altitude reply (30_encoding R124). -/
structure SurvAlt where
  fs : BitVec 3
  dr : BitVec 5
  um : BitVec 6
  ac : BitVec 13
  ap : BitVec 24
  deriving DecidableEq, Repr

/-- DF5, surveillance identity reply (30_encoding R125). -/
structure SurvId where
  fs : BitVec 3
  dr : BitVec 5
  um : BitVec 6
  ident : BitVec 13
  ap : BitVec 24
  deriving DecidableEq, Repr

/-- DF20, Comm-B altitude reply (30_encoding R124). -/
structure CommBAlt where
  fs : BitVec 3
  dr : BitVec 5
  um : BitVec 6
  ac : BitVec 13
  mb : BitVec 56
  ap : BitVec 24
  deriving DecidableEq, Repr

/-- DF21, Comm-B identity reply (30_encoding R125). -/
structure CommBId where
  fs : BitVec 3
  dr : BitVec 5
  um : BitVec 6
  ident : BitVec 13
  mb : BitVec 56
  ap : BitVec 24
  deriving DecidableEq, Repr

/-- DF11, all-call reply (30_encoding R126). -/
structure AllCall where
  ca : BitVec 3
  aa : BitVec 24
  parity : BitVec 24
  deriving DecidableEq, Repr

/-- DF17, extended squitter (30_encoding R127). -/
structure ExtSquitter where
  ca : BitVec 3
  aa : BitVec 24
  me : BitVec 56
  parity : BitVec 24
  deriving DecidableEq, Repr

/-- DF24 to DF31, Comm-D (30_encoding R134): the first two bits are 11, `low` is the rest of the DF field, `cap` is
F⟨6..8⟩. -/
structure CommD where
  low : BitVec 3
  cap : BitVec 3
  body : BitVec 80
  ap : BitVec 24
  deriving DecidableEq, Repr

/-- What surrounds the ME field in a verified DF17 frame, after correction (43_checksum R229): F⟨1..5⟩ as corrected
(R227 keeps the record's df at the received 17), CA, AA, PI, and the correction made. -/
structure SquitterHead where
  dfBits : BitVec 5
  ca : BitVec 3
  aa : BitVec 24
  parity : BitVec 24
  fix : BitFix
  deriving DecidableEq, Repr

/-- ME identification, TC 1 to 4 (30_encoding R129): C1 is the most significant 6 bits of `chars`. -/
structure Identification where
  category : BitVec 3
  chars : BitVec 48
  deriving DecidableEq, Repr

/-- ME surface position, TC 5 to 8 (30_encoding R130). -/
structure SurfacePosition where
  movement : BitVec 7
  trackStatus : BitVec 1
  track : BitVec 7
  t : BitVec 1
  f : BitVec 1
  cprLat : BitVec 17
  cprLon : BitVec 17
  deriving DecidableEq, Repr

/-- ME airborne position, TC 9 to 18 and 20 to 22 (30_encoding R131). -/
structure AirbornePosition where
  survStatus : BitVec 2
  singleAntenna : BitVec 1
  alt : BitVec 12
  t : BitVec 1
  f : BitVec 1
  cprLat : BitVec 17
  cprLon : BitVec 17
  deriving DecidableEq, Repr

/-- ME airborne velocity over ground, TC 19 with ST 1 or 2 (30_encoding R132). -/
structure VelocityGround where
  intent : BitVec 1
  ifr : BitVec 1
  nuc : BitVec 3
  dew : BitVec 1
  vew : BitVec 10
  dns : BitVec 1
  vns : BitVec 10
  vrSource : BitVec 1
  svr : BitVec 1
  vr : BitVec 9
  reserved : BitVec 2
  altDiffSign : BitVec 1
  altDiff : BitVec 7
  deriving DecidableEq, Repr

/-- ME airborne velocity, airspeed and heading, TC 19 with ST 3 or 4 (30_encoding R133). -/
structure VelocityAir where
  intent : BitVec 1
  ifr : BitVec 1
  nuc : BitVec 3
  headingStatus : BitVec 1
  heading : BitVec 10
  airspeedType : BitVec 1
  airspeed : BitVec 10
  vrSource : BitVec 1
  svr : BitVec 1
  vr : BitVec 9
  reserved : BitVec 2
  altDiffSign : BitVec 1
  altDiff : BitVec 7
  deriving DecidableEq, Repr

/-- An ME message decoded to TC and ST only, TC 0 and 23 to 31 (30_encoding R128, R135). -/
structure OtherMe where
  st : BitVec 3
  body : BitVec 48
  deriving DecidableEq, Repr

/-- The instructions: the fourteen host commands and the catch-all of the reserved ones, the downlink formats a decode
attempt dispatches on, and the ME messages a verified DF17 frame dispatches on. -/
inductive Instr where
  /-- NOP (R361). -/
  | nop
  /-- RESET (R374). -/
  | reset
  /-- REG_WRITE (R362). -/
  | regWrite (sel : BitVec 8) (a : U64)
  /-- REG_READ (R363). -/
  | regRead (sel : BitVec 8)
  /-- SAMPLE_WRITE (R364). -/
  | sampleWrite (a b : U64)
  /-- SAMPLE_READ (R365). -/
  | sampleRead (a : U64)
  /-- PROCESS (R366). -/
  | process (a b : U64)
  /-- CANCEL (R367). -/
  | cancel
  /-- SWEEP (R368). -/
  | sweep (b : U64)
  /-- MSG_POP (R369). -/
  | msgPop
  /-- TRACK_READ (R370). -/
  | trackRead (a : U64)
  /-- TRACK_SLOT (R371). -/
  | trackSlot (a : U64)
  /-- CACHE_INSERT (R372). -/
  | cacheInsert (a b : U64)
  /-- CACHE_QUERY (R373). -/
  | cacheQuery (a b : U64)
  /-- RESERVED_CMD (R113). -/
  | reservedCmd (word : U32)
  /-- DF0_SHORT_AIR_AIR (R254). -/
  | df0ShortAirAir (f : AirAirShort)
  /-- DF1_UNSUPPORTED (R222). -/
  | df1Unsupported (body : BitVec 51)
  /-- DF2_UNSUPPORTED (R222). -/
  | df2Unsupported (body : BitVec 51)
  /-- DF3_UNSUPPORTED (R222). -/
  | df3Unsupported (body : BitVec 51)
  /-- DF4_SURV_ALT (R255). -/
  | df4SurvAlt (f : SurvAlt)
  /-- DF5_SURV_ID (R256). -/
  | df5SurvId (f : SurvId)
  /-- DF6_UNSUPPORTED (R222). -/
  | df6Unsupported (body : BitVec 51)
  /-- DF7_UNSUPPORTED (R222). -/
  | df7Unsupported (body : BitVec 51)
  /-- DF8_UNSUPPORTED (R222). -/
  | df8Unsupported (body : BitVec 51)
  /-- DF9_UNSUPPORTED (R222). -/
  | df9Unsupported (body : BitVec 51)
  /-- DF10_UNSUPPORTED (R222). -/
  | df10Unsupported (body : BitVec 51)
  /-- DF11_ALL_CALL (R257). -/
  | df11AllCall (f : AllCall)
  /-- DF12_UNSUPPORTED (R222). -/
  | df12Unsupported (body : BitVec 51)
  /-- DF13_UNSUPPORTED (R222). -/
  | df13Unsupported (body : BitVec 51)
  /-- DF14_UNSUPPORTED (R222). -/
  | df14Unsupported (body : BitVec 51)
  /-- DF15_UNSUPPORTED (R222). -/
  | df15Unsupported (body : BitVec 51)
  /-- DF16_LONG_AIR_AIR (R258). -/
  | df16LongAirAir (f : AirAirLong)
  /-- DF17_EXT_SQUITTER (R262). -/
  | df17ExtSquitter (f : ExtSquitter)
  /-- DF18_UNSUPPORTED (R222). -/
  | df18Unsupported (body : BitVec 107)
  /-- DF19_UNSUPPORTED (R222). -/
  | df19Unsupported (body : BitVec 107)
  /-- DF20_COMMB_ALT (R259). -/
  | df20CommbAlt (f : CommBAlt)
  /-- DF21_COMMB_ID (R260). -/
  | df21CommbId (f : CommBId)
  /-- DF22_UNSUPPORTED (R222). -/
  | df22Unsupported (body : BitVec 107)
  /-- DF23_UNSUPPORTED (R222). -/
  | df23Unsupported (body : BitVec 107)
  /-- DF24_COMM_D (R261). -/
  | df24CommD (f : CommD)
  /-- ME_TC0_NO_POSITION (R273). -/
  | meTc0NoPosition (h : SquitterHead) (m : OtherMe)
  /-- ME_TC1_IDENTIFICATION (R263). -/
  | meTc1Identification (h : SquitterHead) (m : Identification)
  /-- ME_TC2_IDENTIFICATION (R263). -/
  | meTc2Identification (h : SquitterHead) (m : Identification)
  /-- ME_TC3_IDENTIFICATION (R263). -/
  | meTc3Identification (h : SquitterHead) (m : Identification)
  /-- ME_TC4_IDENTIFICATION (R263). -/
  | meTc4Identification (h : SquitterHead) (m : Identification)
  /-- ME_TC5_SURFACE_POSITION (R265). -/
  | meTc5SurfacePosition (h : SquitterHead) (m : SurfacePosition)
  /-- ME_TC6_SURFACE_POSITION (R265). -/
  | meTc6SurfacePosition (h : SquitterHead) (m : SurfacePosition)
  /-- ME_TC7_SURFACE_POSITION (R265). -/
  | meTc7SurfacePosition (h : SquitterHead) (m : SurfacePosition)
  /-- ME_TC8_SURFACE_POSITION (R265). -/
  | meTc8SurfacePosition (h : SquitterHead) (m : SurfacePosition)
  /-- ME_TC9_AIRBORNE_POSITION_BARO (R267). -/
  | meTc9AirbornePositionBaro (h : SquitterHead) (m : AirbornePosition)
  /-- ME_TC10_AIRBORNE_POSITION_BARO (R267). -/
  | meTc10AirbornePositionBaro (h : SquitterHead) (m : AirbornePosition)
  /-- ME_TC11_AIRBORNE_POSITION_BARO (R267). -/
  | meTc11AirbornePositionBaro (h : SquitterHead) (m : AirbornePosition)
  /-- ME_TC12_AIRBORNE_POSITION_BARO (R267). -/
  | meTc12AirbornePositionBaro (h : SquitterHead) (m : AirbornePosition)
  /-- ME_TC13_AIRBORNE_POSITION_BARO (R267). -/
  | meTc13AirbornePositionBaro (h : SquitterHead) (m : AirbornePosition)
  /-- ME_TC14_AIRBORNE_POSITION_BARO (R267). -/
  | meTc14AirbornePositionBaro (h : SquitterHead) (m : AirbornePosition)
  /-- ME_TC15_AIRBORNE_POSITION_BARO (R267). -/
  | meTc15AirbornePositionBaro (h : SquitterHead) (m : AirbornePosition)
  /-- ME_TC16_AIRBORNE_POSITION_BARO (R267). -/
  | meTc16AirbornePositionBaro (h : SquitterHead) (m : AirbornePosition)
  /-- ME_TC17_AIRBORNE_POSITION_BARO (R267). -/
  | meTc17AirbornePositionBaro (h : SquitterHead) (m : AirbornePosition)
  /-- ME_TC18_AIRBORNE_POSITION_BARO (R267). -/
  | meTc18AirbornePositionBaro (h : SquitterHead) (m : AirbornePosition)
  /-- ME_TC19_ST0_RESERVED (R273). -/
  | meTc19St0Reserved (h : SquitterHead) (m : BitVec 48)
  /-- ME_TC19_ST1_VELOCITY_GROUND (R270). -/
  | meTc19St1VelocityGround (h : SquitterHead) (m : VelocityGround)
  /-- ME_TC19_ST2_VELOCITY_GROUND (R270). -/
  | meTc19St2VelocityGround (h : SquitterHead) (m : VelocityGround)
  /-- ME_TC19_ST3_VELOCITY_AIRSPEED (R271). -/
  | meTc19St3VelocityAirspeed (h : SquitterHead) (m : VelocityAir)
  /-- ME_TC19_ST4_VELOCITY_AIRSPEED (R271). -/
  | meTc19St4VelocityAirspeed (h : SquitterHead) (m : VelocityAir)
  /-- ME_TC19_ST5_RESERVED (R273). -/
  | meTc19St5Reserved (h : SquitterHead) (m : BitVec 48)
  /-- ME_TC19_ST6_RESERVED (R273). -/
  | meTc19St6Reserved (h : SquitterHead) (m : BitVec 48)
  /-- ME_TC19_ST7_RESERVED (R273). -/
  | meTc19St7Reserved (h : SquitterHead) (m : BitVec 48)
  /-- ME_TC20_AIRBORNE_POSITION_GNSS (R269). -/
  | meTc20AirbornePositionGnss (h : SquitterHead) (m : AirbornePosition)
  /-- ME_TC21_AIRBORNE_POSITION_GNSS (R269). -/
  | meTc21AirbornePositionGnss (h : SquitterHead) (m : AirbornePosition)
  /-- ME_TC22_AIRBORNE_POSITION_GNSS (R269). -/
  | meTc22AirbornePositionGnss (h : SquitterHead) (m : AirbornePosition)
  /-- ME_TC23_OTHER (R273). -/
  | meTc23Other (h : SquitterHead) (m : OtherMe)
  /-- ME_TC24_OTHER (R273). -/
  | meTc24Other (h : SquitterHead) (m : OtherMe)
  /-- ME_TC25_OTHER (R273). -/
  | meTc25Other (h : SquitterHead) (m : OtherMe)
  /-- ME_TC26_OTHER (R273). -/
  | meTc26Other (h : SquitterHead) (m : OtherMe)
  /-- ME_TC27_OTHER (R273). -/
  | meTc27Other (h : SquitterHead) (m : OtherMe)
  /-- ME_TC28_OTHER (R273). -/
  | meTc28Other (h : SquitterHead) (m : OtherMe)
  /-- ME_TC29_OTHER (R273). -/
  | meTc29Other (h : SquitterHead) (m : OtherMe)
  /-- ME_TC30_OTHER (R273). -/
  | meTc30Other (h : SquitterHead) (m : OtherMe)
  /-- ME_TC31_OTHER (R273). -/
  | meTc31Other (h : SquitterHead) (m : OtherMe)
  deriving DecidableEq, Repr

end Sys2Proof
end

