-- ==== Sys2Proof/Machine/State.lean ====
section
/-! DEFINITION. The state of MSD1 as plain data: every piece of state of 10_state and 20_memory, and two fields of the
model's own (`schedule`, log 1; `rsp`, log 2). -/

namespace Sys2Proof.Machine

/-! ### Values the state is made of -/

/-- PST, the scan state (10_state R32). -/
inductive ScanState where
  | scanning
  | candidateFound
  | correcting
  deriving DecidableEq, Repr

/-- One entry of BITS (10_state R35). -/
inductive SliceBit where
  | zero
  | one
  | err
  deriving DecidableEq, Repr

/-- NBITS: 56 or 112 (10_state R36). -/
inductive FrameLen where
  | short
  | long
  deriving DecidableEq, Repr

/-- A frame of 56 or 112 bits, as a message record holds it (10_state R51): nbits is its length. -/
inductive Frame where
  | short (f : BitVec 56)
  | long (f : BitVec 112)
  deriving DecidableEq, Repr

/-- Command status codes (60_exceptions R391). -/
inductive Status where
  | ok
  | none
  | errIllegalCmd
  | errBusy
  | errBadReg
  | errBadValue
  | errAddr
  | errOddLength
  | errTimeRegress
  deriving DecidableEq, Repr

/-- The statistics counters, in the order of their selectors 0x20 to 0x37 (10_state R46). -/
inductive Cnt where
  | preamble
  | phaseRetry
  | rejErrBits
  | rejEnergy
  | dfUnsupported
  | crcGood
  | fix1
  | fix2
  | crcBad
  | apOk
  | apUnknown
  | accepted
  | phaseGood
  | fifoOverflow
  | trackFull
  | cprGlobal
  | cprLocal
  | cprRelative
  | cprZone
  | cprBadLat
  | cprFar
  | cprRejRange
  | cprRejSpeed
  | trackRemoved
  deriving DecidableEq, Repr

/-- The counters' place in the register map: selector 0x20 + index (10_state R46). -/
def Cnt.index : Cnt → Fin 24
  | .preamble => 0
  | .phaseRetry => 1
  | .rejErrBits => 2
  | .rejEnergy => 3
  | .dfUnsupported => 4
  | .crcGood => 5
  | .fix1 => 6
  | .fix2 => 7
  | .crcBad => 8
  | .apOk => 9
  | .apUnknown => 10
  | .accepted => 11
  | .phaseGood => 12
  | .fifoOverflow => 13
  | .trackFull => 14
  | .cprGlobal => 15
  | .cprLocal => 16
  | .cprRelative => 17
  | .cprZone => 18
  | .cprBadLat => 19
  | .cprFar => 20
  | .cprRejRange => 21
  | .cprRejSpeed => 22
  | .trackRemoved => 23

/-- The 24 counters, u32 each (10_state R46). -/
abbrev Counters := Vector U32 24

/-- Where a position came from (10_state R49). -/
inductive PosSource where
  | global
  | localFix
  | relative
  deriving DecidableEq, Repr

/-- Airspeed kinds (10_state R49). -/
inductive AirspeedType where
  | ias
  | tas
  deriving DecidableEq, Repr

/-- A position in degrees (10_state R49). -/
structure Position where
  lat : F64
  lon : F64
  deriving DecidableEq, Repr

/-- A cached CPR sample; its parity is the slot that holds it (10_state R50). -/
structure CprSample where
  rawLat : BitVec 17
  rawLon : BitVec 17
  timestamp : U64
  surface : Bool
  deriving DecidableEq, Repr

/-- A valid slot of the track table (10_state R49); an invalid slot is one the table does not list (log 6). -/
structure Track where
  icao : U24
  lastSeen : U64
  messageCount : U32
  pos : Option Position
  posTime : U64
  posSource : PosSource
  altitudeFt : Option Int
  squawk : Option (BitVec 16)
  flightStatus : Option (BitVec 3)
  flight : Option (List Char)
  category : Option (BitVec 3)
  gsKt : Option F64
  trackDeg : Option F64
  headingDeg : Option F64
  airspeedKt : Option Nat
  airspeedType : Option AirspeedType
  vertRateFpm : Option Int
  onGround : Option Bool
  cprEven : Option CprSample
  cprOdd : Option CprSample
  deriving DecidableEq, Repr

/-- A slot of the ICAO cache (10_state R48). -/
structure CacheEntry where
  address : U32
  lastSeen : U64
  deriving DecidableEq, Repr

/-- The payload fields of a message record (44_decoder R251); the altitude's unit is always feet. -/
structure Payload where
  altitudeFt : Option Int := none
  squawk : Option (BitVec 16) := none
  flightStatus : Option (BitVec 3) := none
  meType : Option (BitVec 5) := none
  meSubtype : Option (BitVec 3) := none
  category : Option (BitVec 3) := none
  flight : Option (List Char) := none
  surface : Option Bool := none
  cprFormat : Option (BitVec 1) := none
  cprUtc : Option (BitVec 1) := none
  cprLat : Option (BitVec 17) := none
  cprLon : Option (BitVec 17) := none
  gsKt : Option F64 := none
  trackDeg : Option F64 := none
  velEwKt : Option Int := none
  velNsKt : Option Int := none
  headingDeg : Option F64 := none
  airspeedKt : Option Nat := none
  airspeedType : Option AirspeedType := none
  vertRateFpm : Option Int := none
  deriving DecidableEq, Repr

/-- A message record (10_state R51, 44_decoder R251); nbits is the length of `frame`. -/
structure Message where
  df : BitVec 5
  capability : BitVec 3
  icao : U24
  crcOk : Bool
  correctedBit : BitFix
  frame : Frame
  offset : U32
  phaseCorrected : Bool
  timestamp : U64
  payload : Payload
  deriving DecidableEq, Repr

/-- The derived state of a valid track slot (46_tracker R330); New is never visible. -/
inductive TrackState where
  | tracked
  | stale
  deriving DecidableEq, Repr

/-- A track record, as TRACK_READ and TRACK_SLOT return it (46_tracker R340). -/
structure Snapshot where
  slot : Nat
  track : Track
  state : TrackState
  deriving DecidableEq, Repr

/-- The record of a response (30_encoding R116). -/
inductive RspRecord where
  | message (m : Message)
  | track (t : Snapshot)
  deriving DecidableEq, Repr

/-- The response of a command (30_encoding R110): status code, result R, record. -/
structure Response where
  status : Status
  result : U64
  record : Option RspRecord
  deriving DecidableEq, Repr

/-- One turn of the schedule (log 1): the host issues a command, or the pipeline takes its turn. -/
inductive Turn where
  | command (word : U32) (a b : U64)
  | pipeline
  deriving DecidableEq, Repr

/-! ### Groups of the state -/

/-- The configuration registers and LAST_TIME (10_state R40 to R44, R47). -/
structure Regs where
  ctrl : U64
  homeLat : F64
  homeLon : F64
  maxRangeM : U64
  trackTtlMs : U64
  lastTime : U64
  deriving DecidableEq, Repr

/-- The fields of STATUS (10_state R45). -/
structure StatusBits where
  busy : Bool
  cancelReq : Bool
  cancelled : Bool
  lastErr : BitVec 8
  deriving DecidableEq, Repr

/-- The scan registers and the PROCESS context (10_state R31 to R33). -/
structure Scan where
  j : U32
  pst : ScanState
  n : U32
  now : U64
  acc : U32
  deriving DecidableEq, Repr

/-- The window, slicer and frame registers (10_state R34 to R36): W has 240 entries, BITS 112. -/
structure Datapath where
  win : List (BitVec 17)
  bits : List SliceBit
  errCnt : BitVec 7
  fr : BitVec 112
  nbits : FrameLen
  deriving DecidableEq, Repr

/-- Sample RAM (20_memory R80): the bytes whose written mark is set (70_reset R423), addresses strictly rising. An address
that is not listed is an unwritten byte. -/
abbrev Memory := List Host.Cell

/-- The canonical form of sample RAM: addresses strictly rising and inside the address space. No entry can equal what an
unlisted address reads as, which is no value. -/
abbrev Memory.wf (m : Memory) : Prop :=
  m.Pairwise (fun x y => x.1 < y.1) ∧ ∀ c ∈ m, c.1 < Config.SAMPLE_RAM_BYTES

/-- The state of MSD1. -/
structure State where
  regs : Regs
  status : StatusBits
  scan : Scan
  dp : Datapath
  counters : Counters
  cache : Sparse CacheEntry
  tracks : Sparse Track
  fifo : List Message
  ram : Memory
  mag : List (BitVec 16)
  rsp : Response
  schedule : List Turn
  deriving DecidableEq, Repr

/-- Why a step stops with a fault. -/
inductive Fault where
  /-- SAMPLE_READ or PROCESS reads a sample byte never written since power-on (70_reset R423). Safe: the spec says that
  the model stops there (log 4). -/
  | unwrittenSample (address : Nat)
  deriving DecidableEq, Repr

/-- Why a step is refused. -/
inductive Refusal where
  /-- Raised by an arm of `exec` whose instruction has no meaning yet; no arm raises it. Safe. -/
  | notModelled (mnemonic : String)
  deriving DecidableEq, Repr

/-! ### Reset -/

/-- The registers after reset (70_reset R421). -/
def Regs.reset : Regs where
  ctrl := 0x2#64
  homeLat := 0#64
  homeLon := 0#64
  maxRangeM := 0#64
  trackTtlMs := BitVec.ofNat 64 Config.TRACK_TTL_RESET_MS
  lastTime := 0#64

/-- STATUS after reset (70_reset R421). -/
def StatusBits.reset : StatusBits where
  busy := false
  cancelReq := false
  cancelled := false
  lastErr := 0#8

/-- The scan registers after reset (70_reset R421). -/
def Scan.reset : Scan where
  j := 0#32
  pst := .scanning
  n := 0#32
  now := 0#64
  acc := 0#32

/-- The window, slicer and frame registers after reset: the spec leaves them unspecified; DESIGN CHOICE zero (log 3). -/
def Datapath.reset : Datapath where
  win := List.replicate 240 0#17
  bits := List.replicate 112 .zero
  errCnt := 0#7
  fr := 0#112
  nbits := .short

/-- The response before any command; DESIGN CHOICE (log 2). -/
def Response.reset : Response where
  status := .ok
  result := 0#64
  record := none

/-- MSD1 right after power-on (70_reset R420, R421): the cache lists no slot, so every slot is (0, 0); the track table
lists no slot, so every slot is invalid; no sample byte is written; M is unspecified, DESIGN CHOICE zero (log 3). -/
def State.reset : State where
  regs := Regs.reset
  status := StatusBits.reset
  scan := Scan.reset
  dp := Datapath.reset
  counters := Vector.replicate 24 0#32
  cache := []
  tracks := []
  fifo := []
  ram := []
  mag := []
  rsp := Response.reset
  schedule := []

end Sys2Proof.Machine
end

