-- ==== Sys2Proof/Machine/Cpr.lean ====
section
/-! DEFINITION. The CprResolver (45_cpr): NL, the global and the local decode, references and pairing, the plausibility
checks, and the update of a track by a position message. Every expression is evaluated left to right, one binary64
rounding per operation (00_scope R16). -/

namespace Sys2Proof.Machine

/-! ### Conventions (45_cpr R290 to R292) -/

/-- Thresholds 0 to 28 of 45_cpr R291, in units of 10^-8 degree. -/
def nlTab0 : List Nat := [
  1047047130, 1482817437, 1818626357, 2102939493, 2354504487, 2582924707, 2793898710, 2991135686,
  3177209708, 3353993436, 3522899598, 3685025108, 3841241892, 3992256684, 4138651832, 4280914012,
  4419454951, 4554626723, 4686733252, 4816039128, 4942776439, 5067150166, 5189342469, 5309516153,
  5427817472, 5544378444, 5659318756, 5772747354, 5884763776]

/-- Thresholds 29 to 57 of 45_cpr R291, in units of 10^-8 degree. -/
def nlTab29 : List Nat := [
  5995459277, 6104917774, 6213216659, 6320427479, 6426616523, 6531845310, 6636171008, 6739646774,
  6842322022, 6944242631, 7045451075, 7145986473, 7245884545, 7345177442, 7443893416, 7542056257,
  7639684391, 7736789461, 7833374083, 7929428225, 8024923213, 8119801349, 8213956981, 8307199445,
  8399173563, 8489166191, 8575541621, 8653536998, 8700000000]

/-- NLTAB: the 58 thresholds, each the binary64 nearest to its decimal (45_cpr R291): a correctly rounded quotient of two
exact values. -/
def nlTab : List F64 := (nlTab0 ++ nlTab29).map (fun t => F64.div (F64.ofNat t) (F64.ofNat 100000000))

/-- The zone count below the first threshold that x is under, counting down from n. -/
def nlFrom (x : F64) : List F64 → Nat → Nat
  | [], n => n
  | t :: ts, n => if F64.lt x t then n else nlFrom x ts (n - 1)

/-- NL(lat) (45_cpr R291). -/
def nl (lat : F64) : Nat := nlFrom (F64.abs lat) nlTab 59

/-- SPAN (45_cpr R290). -/
def span (surface : Bool) : F64 := F64.ofNat (if surface then 90 else 360)

/-- A parity as the number the formulas use: even 0, odd 1. -/
def parityNat (odd : Bool) : Nat := if odd then 1 else 0

/-- DLAT(odd) (45_cpr R290). -/
def dlat (surface odd : Bool) : F64 := F64.div (span surface) (F64.ofNat (60 - parityNat odd))

/-- N(lat, odd) (45_cpr R292). -/
def zonesAt (lat : F64) (odd : Bool) : Nat := max (nl lat - parityNat odd) 1

/-- DLON(lat, odd) (45_cpr R292). -/
def dlon (surface : Bool) (lat : F64) (odd : Bool) : F64 := F64.div (span surface) (F64.ofNat (zonesAt lat odd))

/-- The fraction raw / 131072 of a raw CPR value (45_cpr R290). -/
def rawFrac (raw : BitVec 17) : F64 := F64.div (F64.ofNat raw.toNat) (F64.ofNat 131072)

/-- 0.5 in binary64. -/
def half : F64 := 0x3FE0000000000000#64

/-- floor(i / 131072 + 0.5) for an integer i: the zone index of 45_cpr R293 and R296. -/
def zoneIndex (i : Int) : Int := F64.floor (F64.add (F64.div (F64.ofInt i) (F64.ofNat 131072)) half)

/-- A latitude outside [−90, 90] (45_cpr R295, R297). -/
def latOutside (r : F64) : Bool := F64.lt r (F64.ofInt (-90)) || F64.lt (F64.ofNat 90) r

/-- The fold of the southern hemisphere: r − 360 from 270 on (45_cpr R293, R297). -/
def foldLat (r : F64) : F64 := if F64.le (F64.ofNat 270) r then F64.sub r (F64.ofNat 360) else r

/-- What a decode gives (45_cpr R295 to R297). -/
inductive CprResult where
  | ok (p : Position)
  | badLat
  | zone
  | far
  deriving DecidableEq, Repr

/-! ### Global decode (45_cpr R293 to R296) -/

/-- SURFLAT(r) with reference latitude rl (45_cpr R294). -/
def surfLat (r rl : F64) : F64 :=
  if F64.eq r (F64.zero false) then
    (if F64.lt rl (F64.ofInt (-45)) then F64.ofInt (-90)
      else if F64.lt (F64.ofNat 45) rl then F64.ofNat 90 else r)
  else if F64.lt (F64.ofNat 45) (F64.sub r rl) then F64.sub r (F64.ofNat 90)
  else r

/-- The candidate latitude of one parity (45_cpr R293), before the fold or SURFLAT: zones is 60 or 59. -/
def globalLatRaw (surface odd : Bool) (j : Int) (raw : BitVec 17) : F64 :=
  F64.mul (dlat surface odd) (F64.add (F64.ofInt (j % ((60 - parityNat odd : Nat) : Int))) (rawFrac raw))

/-- The candidate latitude of one parity (45_cpr R293, R294). -/
def globalLat (surface odd : Bool) (j : Int) (raw : BitVec 17) (ref : Position) : F64 :=
  if surface then surfLat (globalLatRaw surface odd j raw) ref.lat else foldLat (globalLatRaw surface odd j raw)

/-- The longitude of the global decode (45_cpr R296). -/
def globalLon (surface odd : Bool) (rlat : F64) (eo oo : BitVec 17) (ref : Position) : F64 :=
  let z := nl rlat
  let m := zoneIndex ((eo.toNat : Int) * ((z : Int) - 1) - (oo.toNat : Int) * (z : Int))
  let ni := zonesAt rlat odd
  let r := F64.mul (dlon surface rlat odd)
    (F64.add (F64.ofInt (m % (ni : Int))) (rawFrac (if odd then oo else eo)))
  let r' :=
    if surface then
      F64.add r (F64.ofInt
        (F64.floor (F64.div (F64.add (F64.sub ref.lon r) (F64.ofNat 45)) (F64.ofNat 90)) * 90))
    else r
  F64.normLon r'

/-- GLOBAL(e, o, fodd, surface, ref) (45_cpr R293 to R296). -/
def globalDecode (el eo ol oo : BitVec 17) (odd surface : Bool) (ref : Position) : CprResult :=
  let j := zoneIndex (59 * (el.toNat : Int) - 60 * (ol.toNat : Int))
  let r0 := globalLat surface false j el ref
  let r1 := globalLat surface true j ol ref
  if latOutside r0 || latOutside r1 then .badLat
  else if nl r0 ≠ nl r1 then .zone
  else
    let rlat := if odd then r1 else r0
    .ok ⟨rlat, globalLon surface odd rlat eo oo ref⟩

/-! ### Local decode (45_cpr R297) -/

/-- The zone index nearest the reference: floor(x/d) + floor(0.5 + fmodp(x, d)/d − frac). -/
def nearestZone (x d frac : F64) : Int :=
  F64.floor (F64.div x d) + F64.floor (F64.sub (F64.add half (F64.div (F64.fmodp x d) d)) frac)

/-- abs(x − ref) > d / 2, the half-cell test (45_cpr R297, R298). -/
def beyondHalfCell (x ref d : F64) : Bool :=
  F64.lt (F64.div d (F64.ofNat 2)) (F64.abs (F64.sub x ref))

/-- LOCAL(ref, (cl, co), fodd, surface) (45_cpr R297). -/
def localDecode (ref : Position) (cl co : BitVec 17) (odd surface : Bool) : CprResult :=
  let d := dlat surface odd
  let fl := rawFrac cl
  let rlat := foldLat (F64.mul d (F64.add (F64.ofInt (nearestZone ref.lat d fl)) fl))
  if latOutside rlat then .badLat
  else if beyondHalfCell rlat ref.lat d then .far
  else
    let dl := dlon surface rlat odd
    let fo := rawFrac co
    let rlon := F64.mul dl (F64.add (F64.ofInt (nearestZone ref.lon dl fo)) fo)
    if beyondHalfCell rlon ref.lon dl then .far else .ok ⟨rlat, F64.normLon rlon⟩

/-! ### References, pairing and plausibility (45_cpr R299 to R305) -/

/-- What the resolver reads besides the track: home and the range register (10_state R41 to R43), and NOW. -/
structure CprEnv where
  homeValid : Bool
  home : Position
  maxRangeM : Nat
  now : U64
  deriving DecidableEq, Repr

/-- The age of a timestamp at NOW, in milliseconds. -/
def ageOf (now t : U64) : Int := (now.toNat : Int) - (t.toNat : Int)

/-- LIMIT(s) (45_cpr R299). -/
def homeLimit (surface : Bool) : Nat :=
  if surface then Config.HOME_HALF_CELL_SURF_M else Config.HOME_HALF_CELL_AIR_M

/-- Home as a local reference (45_cpr R299, 2). -/
def homeReference (env : CprEnv) (surface : Bool) : Option (Position × PosSource) :=
  if env.homeValid ∧ 0 < env.maxRangeM ∧ env.maxRangeM ≤ homeLimit surface then some (env.home, .relative) else none

/-- The local reference (45_cpr R299). -/
def localReference (env : CprEnv) (t : Track) (surface : Bool) : Option (Position × PosSource) :=
  match t.pos with
  | some p =>
    if ageOf env.now t.posTime ≤ (Config.LOCAL_REF_MAX_AGE_MS : Nat) then some (p, .localFix)
    else homeReference env surface
  | none => homeReference env surface

/-- The surface global reference (45_cpr R300). -/
def surfaceReference (env : CprEnv) (t : Track) : Option Position :=
  match t.pos with
  | some p => some p
  | none => if env.homeValid then some env.home else none

/-- WINDOW(s) (45_cpr R301). -/
def pairWindow (surface : Bool) : Nat :=
  if surface then Config.CPR_PAIR_WINDOW_SURF_MS else Config.CPR_PAIR_WINDOW_AIR_MS

/-- The pairing condition on the stored opposite-parity sample (45_cpr R301). -/
def mayPair (now : U64) (surface : Bool) (o : CprSample) : Bool :=
  o.surface == surface && decide (ageOf now o.timestamp ≤ (pairWindow surface : Nat))

/-- x² is x · x (00_scope R16). -/
def sq (x : F64) : F64 := F64.mul x x

/-- h of the haversine formula (45_cpr R302). -/
def haversine (p q : Position) : F64 :=
  F64.add (sq (Config.SIN (F64.div (F64.sub (F64.rad q.lat) (F64.rad p.lat)) (F64.ofNat 2))))
    (F64.mul (F64.mul (Config.COS (F64.rad p.lat)) (Config.COS (F64.rad q.lat)))
      (sq (Config.SIN (F64.div (F64.sub (F64.rad q.lon) (F64.rad p.lon)) (F64.ofNat 2)))))

/-- GC(p, q), the great-circle distance in metres (45_cpr R302). -/
def greatCircle (p q : Position) : F64 :=
  F64.mul (F64.mul (F64.ofNat 2) (F64.ofNat Config.EARTH_RADIUS_M))
    (Config.ASIN (F64.min (F64.ofNat 1) (F64.sqrt (haversine p q))))

/-- The speed of 45_cpr R305 before its scaling, in the order of 46_tracker R336. -/
def knownSpeed (t : Track) (surface : Bool) : F64 :=
  match t.gsKt, t.airspeedKt with
  | some v, _ => v
  | none, some v => F64.ofNat v
  | none, none => F64.ofNat (if surface then Config.SPEED_DEFAULT_SURF_KT else Config.SPEED_DEFAULT_AIR_KT)

/-- v of 45_cpr R305: scaled by 4/3 and clamped. -/
def checkSpeed (t : Track) (surface : Bool) : F64 :=
  let v := F64.div (F64.mul (knownSpeed t surface) (F64.ofNat 4)) (F64.ofNat 3)
  if surface then F64.min (F64.max v (F64.ofNat 20)) (F64.ofNat 150) else F64.max v (F64.ofNat 200)

/-- The travel allowance of 45_cpr R305 for an elapsed time in milliseconds and a speed v. -/
def travelRange (elapsed : Int) (v : F64) (surface : Bool) : F64 :=
  F64.add (F64.ofNat (if surface then Config.SPEED_BASE_SURF_M else Config.SPEED_BASE_AIR_M))
    (F64.mul (F64.div (F64.ofInt (elapsed + 1000)) (F64.ofNat 1000))
      (F64.div (F64.mul v (F64.ofNat 1852)) (F64.ofNat 3600)))

/-- What the plausibility checks answer (45_cpr R303). -/
inductive Plausibility where
  | ok
  | rejRange
  | rejSpeed
  deriving DecidableEq, Repr

/-- The home-distance check fails (45_cpr R304). -/
def tooFarFromHome (env : CprEnv) (p : Position) : Bool :=
  env.homeValid && decide (0 < env.maxRangeM) && F64.lt (F64.ofNat env.maxRangeM) (greatCircle env.home p)

/-- The speed-sanity check fails (45_cpr R305). -/
def tooFast (env : CprEnv) (t : Track) (p : Position) (surface : Bool) : Bool :=
  match t.pos with
  | none => false
  | some old =>
    F64.lt (travelRange (ageOf env.now t.posTime) (checkSpeed t surface) surface) (greatCircle old p)

/-- PLAUSIBLE(A, pos, s) (45_cpr R303). -/
def plausible (env : CprEnv) (t : Track) (p : Position) (surface : Bool) : Plausibility :=
  if tooFarFromHome env p then .rejRange else if tooFast env t p surface then .rejSpeed else .ok

/-! ### Update (45_cpr R306, R307) -/

/-- The final range check (45_cpr R307): no NaN, −90 ≤ lat ≤ 90, −180 ≤ lon ≤ 180. -/
def Position.inRange (p : Position) : Bool :=
  F64.le (F64.ofInt (-90)) p.lat && F64.le p.lat (F64.ofNat 90) &&
    F64.le (F64.ofInt (-180)) p.lon && F64.le p.lon (F64.ofNat 180)

/-- The counter of a position's source (45_cpr R306). -/
def PosSource.counter : PosSource → Cnt
  | .global => .cprGlobal
  | .localFix => .cprLocal
  | .relative => .cprRelative

/-- A track after some steps of CPR_UPDATE, the counters they incremented, and whether CPR_UPDATE returns. -/
structure CprProgress where
  track : Track
  counts : List Cnt
  done : Bool
  deriving DecidableEq, Repr

/-- ACCEPT(A, p, src) (45_cpr R306) with the final range check of R307. -/
def acceptPosition (env : CprEnv) (t : Track) (p : Position) (src : PosSource) : CprProgress :=
  if p.inRange then ⟨{ t with pos := some p, posTime := env.now, posSource := src }, [src.counter], true⟩
  else ⟨t, [.cprBadLat], true⟩

/-- What follows the plausibility checks of a decoded position: ACCEPT, or count why not (45_cpr R306). -/
def afterChecks (env : CprEnv) (t : Track) (p : Position) (src : PosSource) : Plausibility → CprProgress
  | .ok => acceptPosition env t p src
  | .rejRange => ⟨t, [.cprRejRange], false⟩
  | .rejSpeed => ⟨t, [.cprRejSpeed], false⟩

/-- A decoded position: ACCEPT if it is plausible, else count why not (45_cpr R306). -/
def tryPosition (env : CprEnv) (t : Track) (p : Position) (src : PosSource) (surface : Bool) : CprProgress :=
  afterChecks env t p src (plausible env t p surface)

/-- Step 1 of CPR_UPDATE: the sample under its parity, and on_ground (45_cpr R306). -/
def storeSample (env : CprEnv) (t : Track) (lat lon : BitVec 17) (odd surface : Bool) : Track :=
  let c : CprSample := ⟨lat, lon, env.now, surface⟩
  if odd then { t with cprOdd := some c, onGround := some surface }
  else { t with cprEven := some c, onGround := some surface }

/-- What follows a local decode in step 2 of CPR_UPDATE (45_cpr R306); LOCAL never answers ZONE. -/
def afterLocal (env : CprEnv) (t : Track) (src : PosSource) (surface : Bool) : CprResult → CprProgress
  | .ok p => tryPosition env t p src surface
  | .badLat => ⟨t, [.cprBadLat], false⟩
  | .far => ⟨t, [.cprFar], false⟩
  | .zone => ⟨t, [], false⟩

/-- Step 2 of CPR_UPDATE: the local decode (45_cpr R306). -/
def localStep (env : CprEnv) (t : Track) (lat lon : BitVec 17) (odd surface : Bool) : CprProgress :=
  match localReference env t surface with
  | none => ⟨t, [], false⟩
  | some (ref, src) => afterLocal env t src surface (localDecode ref lat lon odd surface)

/-- The reference of the global decode: needed on the surface only (45_cpr R300). -/
def globalReference (env : CprEnv) (t : Track) (surface : Bool) : Option Position :=
  if surface then surfaceReference env t else some ⟨0#64, 0#64⟩

/-- What follows a global decode in step 5 of CPR_UPDATE (45_cpr R306); GLOBAL never answers FAR. -/
def afterGlobal (env : CprEnv) (t : Track) (surface : Bool) : CprResult → CprProgress
  | .ok p => tryPosition env t p .global surface
  | .badLat => ⟨t, [.cprBadLat], true⟩
  | .zone => ⟨t, [.cprZone], true⟩
  | .far => ⟨t, [], true⟩

/-- Steps 3 to 5 of CPR_UPDATE: the global decode of the stored pair (45_cpr R306). -/
def globalStep (env : CprEnv) (t : Track) (odd surface : Bool) : CprProgress :=
  match t.cprEven, t.cprOdd with
  | some e, some o =>
    if mayPair env.now surface (if odd then e else o) then
      match globalReference env t surface with
      | none => ⟨t, [], true⟩
      | some ref => afterGlobal env t surface (globalDecode e.rawLat e.rawLon o.rawLat o.rawLon odd surface ref)
    else ⟨t, [], true⟩
  | _, _ => ⟨t, [], true⟩

/-- CPR_UPDATE(A, msg) (45_cpr R306): the track and the counters incremented, in order. -/
def cprUpdate (env : CprEnv) (t : Track) (lat lon : BitVec 17) (odd surface : Bool) : Track × List Cnt :=
  let t1 := storeSample env t lat lon odd surface
  let l := localStep env t1 lat lon odd surface
  if l.done then (l.track, l.counts)
  else
    let g := globalStep env l.track odd surface
    (g.track, l.counts ++ g.counts)

end Sys2Proof.Machine
end

