-- ==== Sys2Proof/Machine/Bits.lean ====
section
/-! DEFINITION. Bit fields of frames (00_scope R11, R12). A frame of n bits is a BitVec n whose most significant bit is
frame bit 0, so that frame bit k is `getMsbD k` and ICAO bit p is frame bit p - 1. -/

namespace Sys2Proof.Machine

/-- F⟨a .. a+w-1⟩ of R12: the unsigned integer formed by w ICAO bits from bit a on, bit a most significant. -/
def icao {n : Nat} (f : BitVec n) (a w : Nat) : BitVec w :=
  f.extractLsb' (n + 1 - a - w) w

/-- The frame with frame bit k (0-based, R12) flipped. -/
def flipBit {n : Nat} (f : BitVec n) (k : Nat) : BitVec n :=
  f ^^^ BitVec.ofNat n (2 ^ (n - 1 - k))

/-- A field of one bit read as a truth value. -/
def isOne (b : BitVec 1) : Bool := b == 1#1

end Sys2Proof.Machine
end

