-- ==== Sys2Proof/Machine/Checksum.lean ====
section
/-! DEFINITION. The ChecksumEngine's functions: the checksum, single- and double-bit correction, and the hash of the ICAO
cache (43_checksum R220 to R231). -/

namespace Sys2Proof.Machine

/-- CRCTAB[0..23] (43_checksum R221). -/
def crcTab0 : List U24 := [
  0x3935EA#24, 0x1C9AF5#24, 0xF1B77E#24, 0x78DBBF#24, 0xC397DB#24, 0x9E31E9#24, 0xB0E2F0#24, 0x587178#24,
  0x2C38BC#24, 0x161C5E#24, 0x0B0E2F#24, 0xFA7D13#24, 0x82C48D#24, 0xBE9842#24, 0x5F4C21#24, 0xD05C14#24,
  0x682E0A#24, 0x341705#24, 0xE5F186#24, 0x72F8C3#24, 0xC68665#24, 0x9CB936#24, 0x4E5C9B#24, 0xD8D449#24]

/-- CRCTAB[24..47] (43_checksum R221). -/
def crcTab24 : List U24 := [
  0x939020#24, 0x49C810#24, 0x24E408#24, 0x127204#24, 0x093902#24, 0x049C81#24, 0xFDB444#24, 0x7EDA22#24,
  0x3F6D11#24, 0xE04C8C#24, 0x702646#24, 0x381323#24, 0xE3F395#24, 0x8E03CE#24, 0x4701E7#24, 0xDC7AF7#24,
  0x91C77F#24, 0xB719BB#24, 0xA476D9#24, 0xADC168#24, 0x56E0B4#24, 0x2B705A#24, 0x15B82D#24, 0xF52612#24]

/-- CRCTAB[48..71] (43_checksum R221). -/
def crcTab48 : List U24 := [
  0x7A9309#24, 0xC2B380#24, 0x6159C0#24, 0x30ACE0#24, 0x185670#24, 0x0C2B38#24, 0x06159C#24, 0x030ACE#24,
  0x018567#24, 0xFF38B7#24, 0x80665F#24, 0xBFC92B#24, 0xA01E91#24, 0xAFF54C#24, 0x57FAA6#24, 0x2BFD53#24,
  0xEA04AD#24, 0x8AF852#24, 0x457C29#24, 0xDD4410#24, 0x6EA208#24, 0x375104#24, 0x1BA882#24, 0x0DD441#24]

/-- CRCTAB[72..87] (43_checksum R221). -/
def crcTab72 : List U24 := [
  0xF91024#24, 0x7C8812#24, 0x3E4409#24, 0xE0D800#24, 0x706C00#24, 0x383600#24, 0x1C1B00#24, 0x0E0D80#24,
  0x0706C0#24, 0x038360#24, 0x01C1B0#24, 0x00E0D8#24, 0x00706C#24, 0x003836#24, 0x001C1B#24, 0xFFF409#24]

/-- CRCTAB: 112 entries, the last 24 of them zero (43_checksum R221). -/
def crcTab : List U24 := crcTab0 ++ (crcTab24 ++ (crcTab48 ++ (crcTab72 ++ List.replicate 24 0#24)))

/-- The exclusive or of the table entries whose frame bit, from bit k on, is set. -/
def crcFrom {n : Nat} (f : BitVec n) : List U24 → Nat → U24
  | [], _ => 0#24
  | t :: ts, k => (if f.getMsbD k then t else 0#24) ^^^ crcFrom f ts (k + 1)

/-- checksum(F, n) of 43_checksum R220: entry k + 112 − n stands for frame bit k. -/
def checksum {n : Nat} (f : BitVec n) : U24 := crcFrom f (crcTab.drop (112 - n)) 0

/-- TX(F, n), the transmitted checksum field: the last 24 bits (43_checksum R220). -/
def txField {n : Nat} (f : BitVec n) : U24 := f.extractLsb' 0 24

/-- checksum(F, n) ⊕ TX(F, n): 0 of a frame that verifies, the candidate address of an address-parity frame (R226), the
syndrome of a frame in error (R225). -/
def syndrome {n : Nat} (f : BitVec n) : U24 := checksum f ^^^ txField f

/-- FIX1 as 43_checksum R224 writes it: the first position, from p on, whose flip makes the frame verify. -/
def fix1Search {n : Nat} (f : BitVec n) : Nat → Nat → Option Nat
  | 0, _ => none
  | k + 1, p =>
    if checksum (flipBit f p) = txField (flipBit f p) then some p else fix1Search f k (p + 1)

/-- The second flip of FIX2 as 43_checksum R225 writes it, from p2 on. -/
def fix2SearchSecond {n : Nat} (f : BitVec n) (p1 : Nat) : Nat → Nat → Option (Nat × Nat)
  | 0, _ => none
  | k + 1, p2 =>
    if checksum (flipBit (flipBit f p1) p2) = txField (flipBit (flipBit f p1) p2) then some (p1, p2)
    else fix2SearchSecond f p1 k (p2 + 1)

/-- FIX2 as 43_checksum R225 writes it: the first pair in lexicographic order, from p1 on. -/
def fix2Search {n : Nat} (f : BitVec n) : Nat → Nat → Option (Nat × Nat)
  | 0, _ => none
  | k + 1, p1 => (fix2SearchSecond f p1 k (p1 + 1)).or (fix2Search f k (p1 + 1))

/-- The syndromes of flipping bit k, for k in 0..n−1: CRCTAB[k + 112 − n], or 2^(n−1−k) for a bit of the checksum field
(43_checksum R225). -/
def flipSyndromes (n : Nat) : List U24 :=
  ((crcTab.drop (112 - n)).take (n - 24)) ++ (List.range 24).map (fun i => BitVec.ofNat 24 (2 ^ (23 - i)))

/-- The index, from p on, of the first entry equal to t. -/
def firstEqual (t : U24) : List U24 → Nat → Option Nat
  | [], _ => none
  | x :: xs, p => if x = t then some p else firstEqual t xs (p + 1)

/-- The first pair of entries, in lexicographic order from index p on, whose exclusive or is t. -/
def firstPairEqual (t : U24) : List U24 → Nat → Option (Nat × Nat)
  | [], _ => none
  | x :: xs, p =>
    match firstEqual (x ^^^ t) xs (p + 1) with
    | some q => some (p, q)
    | none => firstPairEqual t xs (p + 1)

/-- FIX1(F, n) by syndrome lookup, which 43_checksum R225 allows (log 13). -/
def fix1 {n : Nat} (f : BitVec n) : Option Nat := firstEqual (syndrome f) (flipSyndromes n) 0

/-- FIX2(F, n) by syndrome lookup, which 43_checksum R225 allows (log 13). -/
def fix2 {n : Nat} (f : BitVec n) : Option (Nat × Nat) := firstPairEqual (syndrome f) (flipSyndromes n) 0

/-- HASH(a) of 43_checksum R231, in 32-bit arithmetic that wraps. -/
def cacheHash (a : U32) : Nat :=
  let a1 := ((a >>> 16) ^^^ a) * 0x045D9F3B#32
  let a2 := ((a1 >>> 16) ^^^ a1) * 0x045D9F3B#32
  let a3 := (a2 >>> 16) ^^^ a2
  (a3 &&& BitVec.ofNat 32 (Config.ICAO_CACHE_LEN - 1)).toNat

end Sys2Proof.Machine
end

