-- ==== Sys2Proof/Machine/Flags.lean ====
section
/-! DEFINITION. MSD1 has no condition codes (10_state R38): its flags are the status codes of commands (60_exceptions
R391), the STATUS register (10_state R45), the bits of CTRL (R41) and the counters (R46). -/

namespace Sys2Proof.Machine

/-- The u8 code of a status (60_exceptions R391). -/
def Status.code : Status → BitVec 8
  | .ok => 0x00#8
  | .none => 0x01#8
  | .errIllegalCmd => 0x10#8
  | .errBusy => 0x11#8
  | .errBadReg => 0x12#8
  | .errBadValue => 0x13#8
  | .errAddr => 0x14#8
  | .errOddLength => 0x15#8
  | .errTimeRegress => 0x16#8

/-- A Bool as a one-bit field. -/
def bit (b : Bool) : BitVec 1 := if b then 1#1 else 0#1

/-- Register STATUS (10_state R45): bit 0 BUSY, bit 1 CANCEL_REQ, bit 2 CANCELLED, bits 15:8 LAST_ERR, the others 0. -/
def StatusBits.view (t : StatusBits) : U64 :=
  0#48 ++ (t.lastErr ++ (0#5 ++ (bit t.cancelled ++ (bit t.cancelReq ++ bit t.busy))))

/-- CTRL.AGGR (10_state R41). -/
def Regs.aggr (r : Regs) : Bool := r.ctrl.getLsbD 0
/-- CTRL.PHASE_EN (10_state R41). -/
def Regs.phaseEn (r : Regs) : Bool := r.ctrl.getLsbD 1
/-- CTRL.HOME_VALID (10_state R41). -/
def Regs.homeValid (r : Regs) : Bool := r.ctrl.getLsbD 2

/-- The value of a counter (10_state R46). -/
def Counters.value (cs : Counters) (c : Cnt) : U32 := cs[c.index]

/-- Adds to a counter, modulo 2^32 (10_state R46). -/
def Counters.addTo (cs : Counters) (c : Cnt) (k : Nat) : Counters :=
  cs.set c.index (cs[c.index] + BitVec.ofNat 32 k)

end Sys2Proof.Machine
end

