-- ==== Sys2Proof/Machine/Ops.lean ====
section
/-! DEFINITION. The named operations over the state: responses and command errors, counters, sample RAM, magnitudes, the
ICAO cache, the message FIFO, and the end of a pipeline step. -/

namespace Sys2Proof.Machine

/-- What one step or one instruction answers. -/
abbrev Result := Host.Outcome State Fault Refusal

/-! ### Responses and errors -/

/-- The response of a command that succeeds (30_encoding R110, 47_commands R360): LAST_ERR is unchanged. -/
def State.respond (s : State) (status : Status) (result : U64) (record : Option RspRecord) : State :=
  { s with rsp := { status := status, result := result, record := record } }

/-- `raise CmdError(code)` (00_scope R14, 47_commands R360, 60_exceptions R391): LAST_ERR <- code, the result is 0 and no
record is returned; nothing else changes. MSD1 has no other form of exception: no state is saved and there is nothing to
return from (60_exceptions R390, R397). -/
def State.raise (s : State) (status : Status) : State :=
  { s with
    status := { s.status with lastErr := status.code }
    rsp := { status := status, result := 0#64, record := none } }

/-- The outcome of a command that fails. -/
def cmdError (s : State) (status : Status) : Result := .next (s.raise status)

/-- The outcome of a command that returns OK, R and no record. -/
def cmdOk (s : State) (result : U64) : Result := .next (s.respond .ok result none)

/-- The busy rule (47_commands R375) for a command that is not accepted while BUSY = 1. -/
def whenIdle (s : State) (body : Result) : Result := if s.status.busy then cmdError s .errBusy else body

/-! ### Counters -/

/-- Increments a counter (10_state R46). -/
def State.count (s : State) (c : Cnt) : State := { s with counters := Counters.addTo s.counters c 1 }

/-- Increments each counter listed, in order. -/
def State.countAll (s : State) (cs : List Cnt) : State := cs.foldl State.count s

/-! ### Sample RAM and magnitudes -/

/-- MemRead(a, 1): the byte at an address, none where it was never written (00_scope R13, 70_reset R423). -/
def State.readSample (s : State) (a : Nat) : Option Byte := Sparse.lookup s.ram a

/-- MemWrite(a, 1, v): the byte is set and marked written (00_scope R13, 47_commands R364). -/
def State.writeSample (s : State) (a : Nat) (v : Byte) : State := { s with ram := Sparse.put s.ram a v }

/-- The magnitudes of samples k, k+1, …, n of them (40_magnitude R171), or the first unwritten address. -/
def magnitudes (m : Memory) : Nat → Nat → Except Nat (List (BitVec 16))
  | 0, _ => .ok []
  | n + 1, k =>
    match Sparse.lookup m (2 * k), Sparse.lookup m (2 * k + 1) with
    | none, _ => .error (2 * k)
    | some _, none => .error (2 * k + 1)
    | some i, some q =>
      match magnitudes m n (k + 1) with
      | .error a => .error a
      | .ok ms => .ok (magOf i q :: ms)

/-- M without the zeros at its end: the canonical form of the magnitude memory. -/
def trimMag (l : List (BitVec 16)) : List (BitVec 16) :=
  l.foldr (fun x acc => if x = 0#16 ∧ acc = [] then [] else x :: acc) []

/-- M[k] (20_memory R81); an entry no PROCESS has written is 0 (log 3). -/
def State.magAt (s : State) (k : Nat) : BitVec 16 := s.mag.getD k 0#16

/-- M[0..] with its first entries replaced and the others kept (20_memory R81: entries k ≥ N keep stale values). -/
def State.writeMags (s : State) (ms : List (BitVec 16)) : State :=
  { s with mag := trimMag (ms ++ s.mag.drop ms.length) }

/-! ### The ICAO cache -/

/-- Slot h of the cache (10_state R48); a slot that is not listed is (0, 0). -/
def cacheSlot (c : Sparse CacheEntry) (h : Nat) : CacheEntry := (Sparse.lookup c h).getD ⟨0#32, 0#64⟩

/-- CACHE_INSERT_INT(a, t) (43_checksum R233): slot HASH(a) <- (a, t), and nothing listed where that is (0, 0). -/
def State.cacheInsert (s : State) (a : U32) (t : U64) : State :=
  { s with
    cache :=
      if a = 0#32 ∧ t = 0#64 then Sparse.drop s.cache (cacheHash a)
      else Sparse.put s.cache (cacheHash a) ⟨a, t⟩ }

/-- CACHE_FOUND(a, t) (43_checksum R232). -/
def State.cacheFound (s : State) (a : U32) (t : U64) : Bool :=
  let e := cacheSlot s.cache (cacheHash a)
  a != 0#32 && e.address == a && decide (e.lastSeen.toNat ≤ t.toNat) &&
    decide (t.toNat - e.lastSeen.toNat ≤ Config.ICAO_CACHE_TTL_MS)

/-! ### The message FIFO -/

/-- FIFO_PUSH(msg) (10_state R51): a full FIFO drops the record and counts it. -/
def State.fifoPush (s : State) (m : Message) : State :=
  if s.fifo.length < Config.MSG_FIFO_DEPTH then { s with fifo := s.fifo ++ [m] } else s.count .fifoOverflow

/-! ### The scan -/

/-- J <- v, PST <- p (00_scope R15). -/
def State.moveTo (s : State) (j : U32) (p : ScanState) : State := { s with scan := { s.scan with j := j, pst := p } }

/-- The `finish` of 41_preamble R186: the run ends when J + 240 > N (R185). -/
def State.finish (s : State) : State :=
  if s.scan.n.toNat < s.scan.j.toNat + 240 then
    { s with status := { s.status with busy := false }, scan := { s.scan with pst := .scanning } }
  else s

/-- What follows a rejected attempt in 41_preamble R186: the first attempt is retried when CTRL.PHASE_EN = 1; otherwise J
advances by 1. DESIGN CHOICE (log 3): W, BITS, ERRCNT, FR and NBITS, open between attempts (93 U4), stay. -/
def State.afterReject (s : State) : State :=
  (if s.scan.pst = .candidateFound ∧ s.regs.phaseEn = true then s.moveTo s.scan.j .correcting
    else s.moveTo (s.scan.j + 1) .scanning).finish

/-- `reject <Reason>` (00_scope R14, 60_exceptions R393): the reason's counter, then the scan goes on. -/
def State.reject (s : State) (c : Cnt) : State := (s.count c).afterReject

end Sys2Proof.Machine
end

