-- ==== Sys2Proof/Machine/Tracker.lean ====
section
/-! DEFINITION. The AircraftTracker (46_tracker): lookup, creation, the scalar and position updates, the derived states
and the sweep. -/

namespace Sys2Proof.Machine

/-- The slot and the track of an address, if a valid slot has it; at most one does (46_tracker R331). -/
def findTrack (m : Sparse Track) (a : U24) : Option (Nat × Track) := m.find? (fun e => e.2.icao == a)

/-- The lowest invalid slot index (46_tracker R331). -/
def freeSlot (m : Sparse Track) : Option Nat :=
  (List.range Config.MAX_TRACKS).find? (fun i => (Sparse.lookup m i).isNone)

/-- A new track (46_tracker R331): every Option field none, message_count 0. pos_time means nothing while pos is none
(log 7). -/
def newTrack (a : U24) (now : U64) : Track where
  icao := a
  lastSeen := now
  messageCount := 0#32
  pos := none
  posTime := 0#64
  posSource := .global
  altitudeFt := none
  squawk := none
  flightStatus := none
  flight := none
  category := none
  gsKt := none
  trackDeg := none
  headingDeg := none
  airspeedKt := none
  airspeedType := none
  vertRateFpm := none
  onGround := none
  cprEven := none
  cprOdd := none

/-- SCALAR_UPDATE(A, msg) (46_tracker R332, R333): an absent field leaves the track's value. -/
def scalarUpdate (t : Track) (p : Payload) (now : U64) : Track :=
  { t with
    lastSeen := now
    messageCount := t.messageCount + 1
    altitudeFt := p.altitudeFt.or t.altitudeFt
    squawk := p.squawk.or t.squawk
    flightStatus := p.flightStatus.or t.flightStatus
    flight := p.flight.or t.flight
    category := p.category.or t.category
    gsKt := p.gsKt.or t.gsKt
    trackDeg := p.trackDeg.or t.trackDeg
    headingDeg := p.headingDeg.or t.headingDeg
    airspeedKt := p.airspeedKt.or t.airspeedKt
    airspeedType := p.airspeedType.or t.airspeedType
    vertRateFpm := p.vertRateFpm.or t.vertRateFpm }

/-- What the resolver reads from the registers. -/
def State.cprEnv (s : State) : CprEnv where
  homeValid := s.regs.homeValid
  home := ⟨s.regs.homeLat, s.regs.homeLon⟩
  maxRangeM := s.regs.maxRangeM.toNat
  now := s.scan.now

/-- The update of one track by a message: the scalar fields, then, if the record has cpr_lat, CPR_UPDATE (46_tracker R331,
R334). -/
def updateTrack (env : CprEnv) (t : Track) (p : Payload) : Track × List Cnt :=
  let t1 := scalarUpdate t p env.now
  match p.cprLat with
  | none => (t1, [])
  | some lat =>
    cprUpdate env t1 lat (p.cprLon.getD 0) (p.cprFormat == some 1#1) (p.surface == some true)

/-- A track put into a slot, with the counters its update incremented. -/
def State.putTrack (s : State) (i : Nat) (u : Track × List Cnt) : State :=
  ({ s with tracks := Sparse.put s.tracks i u.1 }).countAll u.2

/-- TRACK_UPDATE(msg, NOW) (46_tracker R331). -/
def State.trackUpdate (s : State) (m : Message) : State :=
  match findTrack s.tracks m.icao with
  | some (i, t) => s.putTrack i (updateTrack s.cprEnv t m.payload)
  | none =>
    match freeSlot s.tracks with
    | some i => s.putTrack i (updateTrack s.cprEnv (newTrack m.icao s.scan.now) m.payload)
    | none => s.count .trackFull

/-- The track is Stale at time t (46_tracker R330). -/
def isStale (ttl : Nat) (t : U64) (a : Track) : Bool := decide ((ttl : Int) < ageOf t a.lastSeen)

/-- The derived state at time t (46_tracker R330). -/
def trackState (ttl : Nat) (t : U64) (a : Track) : TrackState := if isStale ttl t a then .stale else .tracked

/-- A snapshot at t = LAST_TIME (46_tracker R340). -/
def State.snapshot (s : State) (i : Nat) (a : Track) : Snapshot :=
  ⟨i, a, trackState s.regs.trackTtlMs.toNat s.regs.lastTime a⟩

/-- The slots that SWEEP_INT(t) keeps valid (46_tracker R339). -/
def sweepKeeps (ttl : Nat) (t : U64) (m : Sparse Track) : Sparse Track := m.filter (fun e => !isStale ttl t e.2)

/-- SWEEP_INT(t) (46_tracker R339): the state after it and the number of slots removed. -/
def State.sweep (s : State) (t : U64) : State × Nat :=
  let kept := sweepKeeps s.regs.trackTtlMs.toNat t s.tracks
  let removed := s.tracks.length - kept.length
  ({ s with tracks := kept, counters := Counters.addTo s.counters .trackRemoved removed }, removed)

end Sys2Proof.Machine
end

