-- ==== Sys2Proof/Machine/Operands.lean ====
section
/-! DEFINITION. Operand decoding (30_encoding R112) and the register map (10_state R39 to R47): which selector names which
register, what a register reads as, and which values it accepts. -/

namespace Sys2Proof.Machine

/-! ### Operand checks -/

/-- A byte address is inside sample RAM (30_encoding R112). -/
def sampleAddrOk (a : U64) : Bool := decide (a.toNat < Config.SAMPLE_RAM_BYTES)

/-- A[63:24] = 0 (30_encoding R112). -/
def addressOk (a : U64) : Bool := a.extractLsb' 24 40 == 0#40

/-- A[23:0], an ICAO address operand. -/
def addressOf (a : U64) : U24 := a.extractLsb' 0 24

/-- B[63:8] = 0 (30_encoding R112). -/
def byteOk (b : U64) : Bool := b.extractLsb' 8 56 == 0#56

/-- B[7:0]. -/
def byteOf (b : U64) : Byte := b.extractLsb' 0 8

/-! ### The register map -/

/-- The registers of 10_state R40. -/
inductive Reg where
  | ident
  | ctrl
  | homeLat
  | homeLon
  | maxRangeM
  | trackTtlMs
  | status
  | lastTime
  | lastAccepted
  | scanPos
  | fifoCount
  | trackCount
  | counter (i : Fin 24)
  deriving DecidableEq, Repr

/-- The register a selector names, none where it is undefined (10_state R39, R40). -/
def regOf (sel : BitVec 8) : Option Reg :=
  match sel.toNat with
  | 0x00 => some .ident
  | 0x01 => some .ctrl
  | 0x02 => some .homeLat
  | 0x03 => some .homeLon
  | 0x04 => some .maxRangeM
  | 0x05 => some .trackTtlMs
  | 0x06 => some .status
  | 0x07 => some .lastTime
  | 0x08 => some .lastAccepted
  | 0x09 => some .scanPos
  | 0x0A => some .fifoCount
  | 0x0B => some .trackCount
  | n => if h : 0x20 ≤ n ∧ n < 0x38 then some (.counter ⟨n - 0x20, by omega⟩) else none

/-- The identification value (00_scope R2). -/
def identValue : U64 := 0x00004D5344310001#64

/-- REG[SEL] as REG_READ returns it (10_state R39 to R47, 47_commands R363). -/
def State.readReg (s : State) : Reg → U64
  | .ident => identValue
  | .ctrl => s.regs.ctrl
  | .homeLat => s.regs.homeLat
  | .homeLon => s.regs.homeLon
  | .maxRangeM => s.regs.maxRangeM
  | .trackTtlMs => s.regs.trackTtlMs
  | .status => s.status.view
  | .lastTime => s.regs.lastTime
  | .lastAccepted => s.scan.acc.setWidth 64
  | .scanPos => s.scan.j.setWidth 64
  | .fifoCount => BitVec.ofNat 64 s.fifo.length
  | .trackCount => BitVec.ofNat 64 s.tracks.length
  | .counter i => s.counters[i].setWidth 64

/-- A binary64 value that is finite and in [−bound, bound] (10_state R42). -/
def degreesOk (v : F64) (bound : Nat) : Bool :=
  F64.isFinite v && F64.le (F64.ofInt (-(bound : Int))) v && F64.le v (F64.ofNat bound)

/-- The register is writable (10_state R40). -/
def Reg.writable : Reg → Bool
  | .ctrl | .homeLat | .homeLon | .maxRangeM | .trackTtlMs => true
  | .ident | .status | .lastTime | .lastAccepted | .scanPos | .fifoCount | .trackCount | .counter _ => false

/-- The value is legal for a writable register (10_state R41 to R44). -/
def Reg.legal : Reg → U64 → Bool
  | .ctrl, v => v.extractLsb' 3 61 == 0#61
  | .homeLat, v => degreesOk v 90
  | .homeLon, v => degreesOk v 180
  | .maxRangeM, v => v.extractLsb' 32 32 == 0#32
  | .trackTtlMs, v => v.extractLsb' 32 32 == 0#32 && v != 0#64
  | .ident, _ | .status, _ | .lastTime, _ | .lastAccepted, _ | .scanPos, _ | .fifoCount, _ | .trackCount, _
  | .counter _, _ => false

/-- REG[SEL] <- A (47_commands R362); a register that is not writable keeps its value. -/
def Regs.write (r : Regs) (g : Reg) (v : U64) : Regs :=
  match g with
  | .ctrl => { r with ctrl := v }
  | .homeLat => { r with homeLat := v }
  | .homeLon => { r with homeLon := v }
  | .maxRangeM => { r with maxRangeM := v }
  | .trackTtlMs => { r with trackTtlMs := v }
  | .ident | .status | .lastTime | .lastAccepted | .scanPos | .fifoCount | .trackCount | .counter _ => r

end Sys2Proof.Machine
end

