-- ==== Sys2Proof/Machine/Commands.lean ====
section
/-! DEFINITION. The meanings of the host commands (47_commands), in the order of the opcode table. The encoding check came
first, in the decoder: a word that fails it is RESERVED_CMD. -/

namespace Sys2Proof.Machine

/-- NOP (R361). -/
def execNop (s : State) : Result := cmdOk s 0#64

/-- Every register, table and FIFO at its reset value; sample RAM keeps its bytes and marks (R374, 70_reset R420, R421).
The host's schedule is outside the machine and stays. -/
def State.resetKeepingRam (s : State) : State := { State.reset with ram := s.ram, schedule := s.schedule }

/-- RESET (R374): always accepted. -/
def execReset (s : State) : Result := cmdOk s.resetKeepingRam 0#64

/-- REG_WRITE (R362). -/
def execRegWrite (sel : BitVec 8) (a : U64) (s : State) : Result :=
  whenIdle s <|
    match regOf sel with
    | none => cmdError s .errBadReg
    | some r =>
      if !r.writable then cmdError s .errBadReg
      else if !r.legal a then cmdError s .errBadValue
      else cmdOk { s with regs := s.regs.write r a } 0#64

/-- REG_READ (R363). -/
def execRegRead (sel : BitVec 8) (s : State) : Result :=
  match regOf sel with
  | none => cmdError s .errBadReg
  | some r => cmdOk s (s.readReg r)

/-- SAMPLE_WRITE (R364). -/
def execSampleWrite (a b : U64) (s : State) : Result :=
  whenIdle s <|
    if !sampleAddrOk a then cmdError s .errAddr
    else if !byteOk b then cmdError s .errBadValue
    else cmdOk (s.writeSample a.toNat (byteOf b)) 0#64

/-- SAMPLE_READ (R365); a byte never written is the fault of 70_reset R423. -/
def execSampleRead (a : U64) (s : State) : Result :=
  if !sampleAddrOk a then cmdError s .errAddr
  else
    match s.readSample a.toNat with
    | none => .fault (.unwrittenSample a.toNat)
    | some v => cmdOk s (v.setWidth 64)

/-- PROCESS's effect once its checks pass and every byte of its buffer is written (R366): N samples with the magnitudes
ms, at time t. DESIGN CHOICE (log 3): W, BITS, ERRCNT, FR and NBITS, open until an attempt writes them (93 U4), stay. -/
def State.startProcess (s : State) (ms : List (BitVec 16)) (n : Nat) (t : U64) : State :=
  { s.writeMags ms with
    regs := { s.regs with lastTime := t }
    scan := { j := 0#32, pst := .scanning, n := BitVec.ofNat 32 n, now := t, acc := 0#32 }
    status := { s.status with busy := decide (240 ≤ n), cancelReq := false, cancelled := false } }

/-- PROCESS (R366). -/
def execProcess (a b : U64) (s : State) : Result :=
  whenIdle s <|
    if a.toNat % 2 ≠ 0 then cmdError s .errOddLength
    else if Config.SAMPLE_RAM_BYTES < a.toNat then cmdError s .errAddr
    else if b.toNat < s.regs.lastTime.toNat then cmdError s .errTimeRegress
    else
      match magnitudes s.ram (a.toNat / 2) 0 with
      | .error addr => .fault (.unwrittenSample addr)
      | .ok ms => cmdOk (s.startProcess ms (a.toNat / 2) b) 0#64

/-- CANCEL (R367): requests cancellation of a running PROCESS; no effect while idle. -/
def execCancel (s : State) : Result :=
  cmdOk (if s.status.busy then { s with status := { s.status with cancelReq := true } } else s) 0#64

/-- SWEEP (R368). -/
def execSweep (b : U64) (s : State) : Result :=
  whenIdle s <|
    if b.toNat < s.regs.lastTime.toNat then cmdError s .errTimeRegress
    else
      let r := { s with regs := { s.regs with lastTime := b } }.sweep b
      cmdOk r.1 (BitVec.ofNat 64 r.2)

/-- MSG_POP (R369). -/
def execMsgPop (s : State) : Result :=
  match s.fifo with
  | [] => .next (s.respond .none 0#64 none)
  | m :: rest => .next ({ s with fifo := rest }.respond .ok 0#64 (some (.message m)))

/-- TRACK_READ (R370). -/
def execTrackRead (a : U64) (s : State) : Result :=
  if !addressOk a then cmdError s .errBadValue
  else
    match findTrack s.tracks (addressOf a) with
    | some (i, t) => .next (s.respond .ok 0#64 (some (.track (s.snapshot i t))))
    | none => .next (s.respond .none 0#64 none)

/-- TRACK_SLOT (R371). -/
def execTrackSlot (a : U64) (s : State) : Result :=
  if Config.MAX_TRACKS ≤ a.toNat then cmdError s .errAddr
  else
    match Sparse.lookup s.tracks a.toNat with
    | some t => .next (s.respond .ok 0#64 (some (.track (s.snapshot a.toNat t))))
    | none => .next (s.respond .none 0#64 none)

/-- CACHE_INSERT (R372). -/
def execCacheInsert (a b : U64) (s : State) : Result :=
  whenIdle s <|
    if !addressOk a then cmdError s .errBadValue
    else cmdOk (s.cacheInsert ((addressOf a).setWidth 32) b) 0#64

/-- CACHE_QUERY (R373). -/
def execCacheQuery (a b : U64) (s : State) : Result :=
  if !addressOk a then cmdError s .errBadValue
  else cmdOk s (if s.cacheFound ((addressOf a).setWidth 32) b then 1#64 else 0#64)

/-- A reserved or illegal command encoding (30_encoding R113): ERR_ILLEGAL_CMD, whatever BUSY is (R360). -/
def execReservedCmd (_word : U32) (s : State) : Result := cmdError s .errIllegalCmd

end Sys2Proof.Machine
end

