-- ==== Sys2Proof/WellFormed.lean ====
section
/-! DEFINITION. Well-formed instructions: what the widths of the fields alone do not say. -/

namespace Sys2Proof

/-- A command word of the reserved and illegal encodings (30_encoding R113): a reserved opcode, a nonzero bit of 31:16, or
a nonzero SEL on a command that does not use SEL. -/
def reservedWord (w : U32) : Bool :=
  w.extractLsb' 16 16 != 0 ||
  decide (13 < (w.extractLsb' 0 8).toNat) ||
  (w.extractLsb' 8 8 != 0 && w.extractLsb' 0 8 != 2 && w.extractLsb' 0 8 != 3)

/-- The positions of a correction lie in a 112-bit frame, a double one in ascending order (10_state R51). -/
def BitFix.inFrame : BitFix → Bool
  | .none => true
  | .single p => decide (p.toNat < 112)
  | .double p1 p2 => decide (p1.toNat < p2.toNat) && decide (p2.toNat < 112)

/-- A DF field with the flip at position p undone, where p lies in it. -/
def unflipDf (d : BitVec 5) (p : BitVec 7) : BitVec 5 :=
  if p.toNat < 5 then Machine.flipBit d p.toNat else d

/-- The DF field as it was received, before the correction (43_checksum R227). -/
def SquitterHead.receivedDf (h : SquitterHead) : BitVec 5 :=
  match h.fix with
  | .none => h.dfBits
  | .single p => unflipDf h.dfBits p
  | .double p1 p2 => unflipDf (unflipDf h.dfBits p1) p2

/-- The head of a frame that reached the ME dispatch: its correction lies in the frame and its received DF is 17. -/
def SquitterHead.wf (h : SquitterHead) : Bool := h.fix.inFrame && h.receivedDf == 17#5

/-- A well-formed instruction: a RESERVED_CMD holds a reserved word, and an ME message the head of a frame that reached
the ME dispatch. Every other field is bounded by its width alone. -/
def Instr.wf : Instr → Bool
  | .nop => true
  | .reset => true
  | .regWrite _ _ => true
  | .regRead _ => true
  | .sampleWrite _ _ => true
  | .sampleRead _ => true
  | .process _ _ => true
  | .cancel => true
  | .sweep _ => true
  | .msgPop => true
  | .trackRead _ => true
  | .trackSlot _ => true
  | .cacheInsert _ _ => true
  | .cacheQuery _ _ => true
  | .reservedCmd w => reservedWord w
  | .df0ShortAirAir _ => true
  | .df1Unsupported _ => true
  | .df2Unsupported _ => true
  | .df3Unsupported _ => true
  | .df4SurvAlt _ => true
  | .df5SurvId _ => true
  | .df6Unsupported _ => true
  | .df7Unsupported _ => true
  | .df8Unsupported _ => true
  | .df9Unsupported _ => true
  | .df10Unsupported _ => true
  | .df11AllCall _ => true
  | .df12Unsupported _ => true
  | .df13Unsupported _ => true
  | .df14Unsupported _ => true
  | .df15Unsupported _ => true
  | .df16LongAirAir _ => true
  | .df17ExtSquitter _ => true
  | .df18Unsupported _ => true
  | .df19Unsupported _ => true
  | .df20CommbAlt _ => true
  | .df21CommbId _ => true
  | .df22Unsupported _ => true
  | .df23Unsupported _ => true
  | .df24CommD _ => true
  | .meTc0NoPosition h _ => h.wf
  | .meTc1Identification h _ => h.wf
  | .meTc2Identification h _ => h.wf
  | .meTc3Identification h _ => h.wf
  | .meTc4Identification h _ => h.wf
  | .meTc5SurfacePosition h _ => h.wf
  | .meTc6SurfacePosition h _ => h.wf
  | .meTc7SurfacePosition h _ => h.wf
  | .meTc8SurfacePosition h _ => h.wf
  | .meTc9AirbornePositionBaro h _ => h.wf
  | .meTc10AirbornePositionBaro h _ => h.wf
  | .meTc11AirbornePositionBaro h _ => h.wf
  | .meTc12AirbornePositionBaro h _ => h.wf
  | .meTc13AirbornePositionBaro h _ => h.wf
  | .meTc14AirbornePositionBaro h _ => h.wf
  | .meTc15AirbornePositionBaro h _ => h.wf
  | .meTc16AirbornePositionBaro h _ => h.wf
  | .meTc17AirbornePositionBaro h _ => h.wf
  | .meTc18AirbornePositionBaro h _ => h.wf
  | .meTc19St0Reserved h _ => h.wf
  | .meTc19St1VelocityGround h _ => h.wf
  | .meTc19St2VelocityGround h _ => h.wf
  | .meTc19St3VelocityAirspeed h _ => h.wf
  | .meTc19St4VelocityAirspeed h _ => h.wf
  | .meTc19St5Reserved h _ => h.wf
  | .meTc19St6Reserved h _ => h.wf
  | .meTc19St7Reserved h _ => h.wf
  | .meTc20AirbornePositionGnss h _ => h.wf
  | .meTc21AirbornePositionGnss h _ => h.wf
  | .meTc22AirbornePositionGnss h _ => h.wf
  | .meTc23Other h _ => h.wf
  | .meTc24Other h _ => h.wf
  | .meTc25Other h _ => h.wf
  | .meTc26Other h _ => h.wf
  | .meTc27Other h _ => h.wf
  | .meTc28Other h _ => h.wf
  | .meTc29Other h _ => h.wf
  | .meTc30Other h _ => h.wf
  | .meTc31Other h _ => h.wf

end Sys2Proof
end

