-- ==== Sys2Proof/Decode.lean ====
section
/-! DEFINITION. The decoder and the encoder, both written from 30_encoding: host commands (R110 to R113), downlink formats
(R120 to R127, R134) and ME messages (R128 to R133). The decoder is total; a frame given with the wrong length or the
wrong DF is rejected by name. -/

namespace Sys2Proof

open Machine (icao)

/-- Encoded instructions: a host command is a word with two operands; a received frame has 56 or 112 bits; an ME message
is a verified DF17 frame, after the correction named. -/
inductive Encoded where
  | command (word : U32) (a b : U64)
  | short (f : BitVec 56)
  | long (f : BitVec 112)
  | squitter (fix : BitFix) (f : BitVec 112)
  deriving DecidableEq, Repr

/-- Why the decoder rejects. -/
inductive DecodeReject where
  /-- 56 bits whose first bit says 112 (30_encoding R120). -/
  | longFormatInShortFrame
  /-- 112 bits whose first bit says 56 (30_encoding R120). -/
  | shortFormatInLongFrame
  /-- A verified frame whose received DF was not 17 (43_checksum R227). -/
  | notExtendedSquitter
  /-- A correction outside the frame (43_checksum R224, R225). -/
  | fixOutsideFrame
  /-- A table word of a width no row of the table has. -/
  | noRowOfThisWidth
  deriving DecidableEq, Repr

/-! ### Host commands -/

/-- 30_encoding R110, R111, R113: OP is word[7:0], SEL is word[15:8], word[31:16] must be 0, and so must SEL on a command
that does not use it. Operands a command does not use are ignored. -/
def decodeCommand (w : U32) (a b : U64) : Instr :=
  if reservedWord w then .reservedCmd w
  else
    match (w.extractLsb' 0 8).toNat with
    | 0 => .nop
    | 1 => .reset
    | 2 => .regWrite (w.extractLsb' 8 8) a
    | 3 => .regRead (w.extractLsb' 8 8)
    | 4 => .sampleWrite a b
    | 5 => .sampleRead a
    | 6 => .process a b
    | 7 => .cancel
    | 8 => .sweep b
    | 9 => .msgPop
    | 10 => .trackRead a
    | 11 => .trackSlot a
    | 12 => .cacheInsert a b
    | 13 => .cacheQuery a b
    | _ => .reservedCmd w

/-! ### Downlink formats, by the layouts of 30_encoding R123 to R127 and R134 -/

/-- R123. -/
def AirAirShort.ofFrame (f : BitVec 56) : AirAirShort where
  vs := icao f 6 1
  cc := icao f 7 1
  spare8 := icao f 8 1
  sl := icao f 9 3
  spare12 := icao f 12 2
  ri := icao f 14 4
  spare18 := icao f 18 2
  ac := icao f 20 13
  ap := icao f 33 24

/-- R123. -/
def AirAirLong.ofFrame (f : BitVec 112) : AirAirLong where
  vs := icao f 6 1
  spare7 := icao f 7 2
  sl := icao f 9 3
  spare12 := icao f 12 2
  ri := icao f 14 4
  spare18 := icao f 18 2
  ac := icao f 20 13
  mv := icao f 33 56
  ap := icao f 89 24

/-- R124. -/
def SurvAlt.ofFrame (f : BitVec 56) : SurvAlt where
  fs := icao f 6 3
  dr := icao f 9 5
  um := icao f 14 6
  ac := icao f 20 13
  ap := icao f 33 24

/-- R125. -/
def SurvId.ofFrame (f : BitVec 56) : SurvId where
  fs := icao f 6 3
  dr := icao f 9 5
  um := icao f 14 6
  ident := icao f 20 13
  ap := icao f 33 24

/-- R124. -/
def CommBAlt.ofFrame (f : BitVec 112) : CommBAlt where
  fs := icao f 6 3
  dr := icao f 9 5
  um := icao f 14 6
  ac := icao f 20 13
  mb := icao f 33 56
  ap := icao f 89 24

/-- R125. -/
def CommBId.ofFrame (f : BitVec 112) : CommBId where
  fs := icao f 6 3
  dr := icao f 9 5
  um := icao f 14 6
  ident := icao f 20 13
  mb := icao f 33 56
  ap := icao f 89 24

/-- R126. -/
def AllCall.ofFrame (f : BitVec 56) : AllCall where
  ca := icao f 6 3
  aa := icao f 9 24
  parity := icao f 33 24

/-- R127. -/
def ExtSquitter.ofFrame (f : BitVec 112) : ExtSquitter where
  ca := icao f 6 3
  aa := icao f 9 24
  me := icao f 33 56
  parity := icao f 89 24

/-- R134. -/
def CommD.ofFrame (f : BitVec 112) : CommD where
  low := icao f 3 3
  cap := icao f 6 3
  body := icao f 9 80
  ap := icao f 89 24

/-- The 56-bit frame at the head of the 112 sliced bits (10_state R36: only bytes 0 to 6 are the frame). -/
def shortPart (fr : BitVec 112) : BitVec 56 := icao fr 1 56

/-- The DF dispatch of 30_encoding R121 on the 112 sliced bits: DF 0 to 15 are 56-bit frames, DF 16 to 31 are 112-bit
frames (R120), and DF 24 to 31 are all Comm-D. -/
def decodeReceived (fr : BitVec 112) : Instr :=
  match (icao fr 1 5).toNat with
  | 0 => .df0ShortAirAir (AirAirShort.ofFrame (shortPart fr))
  | 1 => .df1Unsupported (icao (shortPart fr) 6 51)
  | 2 => .df2Unsupported (icao (shortPart fr) 6 51)
  | 3 => .df3Unsupported (icao (shortPart fr) 6 51)
  | 4 => .df4SurvAlt (SurvAlt.ofFrame (shortPart fr))
  | 5 => .df5SurvId (SurvId.ofFrame (shortPart fr))
  | 6 => .df6Unsupported (icao (shortPart fr) 6 51)
  | 7 => .df7Unsupported (icao (shortPart fr) 6 51)
  | 8 => .df8Unsupported (icao (shortPart fr) 6 51)
  | 9 => .df9Unsupported (icao (shortPart fr) 6 51)
  | 10 => .df10Unsupported (icao (shortPart fr) 6 51)
  | 11 => .df11AllCall (AllCall.ofFrame (shortPart fr))
  | 12 => .df12Unsupported (icao (shortPart fr) 6 51)
  | 13 => .df13Unsupported (icao (shortPart fr) 6 51)
  | 14 => .df14Unsupported (icao (shortPart fr) 6 51)
  | 15 => .df15Unsupported (icao (shortPart fr) 6 51)
  | 16 => .df16LongAirAir (AirAirLong.ofFrame fr)
  | 17 => .df17ExtSquitter (ExtSquitter.ofFrame fr)
  | 18 => .df18Unsupported (icao fr 6 107)
  | 19 => .df19Unsupported (icao fr 6 107)
  | 20 => .df20CommbAlt (CommBAlt.ofFrame fr)
  | 21 => .df21CommbId (CommBId.ofFrame fr)
  | 22 => .df22Unsupported (icao fr 6 107)
  | 23 => .df23Unsupported (icao fr 6 107)
  | _ => .df24CommD (CommD.ofFrame fr)

/-! ### ME messages, by the layouts of 30_encoding R128 to R133 -/

/-- What surrounds the ME field of a verified DF17 frame (R127). -/
def SquitterHead.ofFrame (fix : BitFix) (f : BitVec 112) : SquitterHead where
  dfBits := icao f 1 5
  ca := icao f 6 3
  aa := icao f 9 24
  parity := icao f 89 24
  fix := fix

/-- R129. -/
def Identification.ofFrame (f : BitVec 112) : Identification where
  category := icao f 38 3
  chars := icao f 41 48

/-- R130. -/
def SurfacePosition.ofFrame (f : BitVec 112) : SurfacePosition where
  movement := icao f 38 7
  trackStatus := icao f 45 1
  track := icao f 46 7
  t := icao f 53 1
  f := icao f 54 1
  cprLat := icao f 55 17
  cprLon := icao f 72 17

/-- R131. -/
def AirbornePosition.ofFrame (f : BitVec 112) : AirbornePosition where
  survStatus := icao f 38 2
  singleAntenna := icao f 40 1
  alt := icao f 41 12
  t := icao f 53 1
  f := icao f 54 1
  cprLat := icao f 55 17
  cprLon := icao f 72 17

/-- R132. -/
def VelocityGround.ofFrame (f : BitVec 112) : VelocityGround where
  intent := icao f 41 1
  ifr := icao f 42 1
  nuc := icao f 43 3
  dew := icao f 46 1
  vew := icao f 47 10
  dns := icao f 57 1
  vns := icao f 58 10
  vrSource := icao f 68 1
  svr := icao f 69 1
  vr := icao f 70 9
  reserved := icao f 79 2
  altDiffSign := icao f 81 1
  altDiff := icao f 82 7

/-- R133. -/
def VelocityAir.ofFrame (f : BitVec 112) : VelocityAir where
  intent := icao f 41 1
  ifr := icao f 42 1
  nuc := icao f 43 3
  headingStatus := icao f 46 1
  heading := icao f 47 10
  airspeedType := icao f 57 1
  airspeed := icao f 58 10
  vrSource := icao f 68 1
  svr := icao f 69 1
  vr := icao f 70 9
  reserved := icao f 79 2
  altDiffSign := icao f 81 1
  altDiff := icao f 82 7

/-- The ME field of a message decoded to TC and ST only (R128). -/
def OtherMe.ofFrame (f : BitVec 112) : OtherMe where
  st := icao f 38 3
  body := icao f 41 48

/-- The ME dispatch of 30_encoding R128 for TC 19, by ST. -/
def decodeMe19 (h : SquitterHead) (f : BitVec 112) : Instr :=
  match (icao f 38 3).toNat with
  | 0 => .meTc19St0Reserved h (icao f 41 48)
  | 1 => .meTc19St1VelocityGround h (VelocityGround.ofFrame f)
  | 2 => .meTc19St2VelocityGround h (VelocityGround.ofFrame f)
  | 3 => .meTc19St3VelocityAirspeed h (VelocityAir.ofFrame f)
  | 4 => .meTc19St4VelocityAirspeed h (VelocityAir.ofFrame f)
  | 5 => .meTc19St5Reserved h (icao f 41 48)
  | 6 => .meTc19St6Reserved h (icao f 41 48)
  | _ => .meTc19St7Reserved h (icao f 41 48)

/-- The ME dispatch of 30_encoding R128 by TC = F⟨33..37⟩, on a verified DF17 frame with its head. -/
def decodeMe (h : SquitterHead) (f : BitVec 112) : Instr :=
  match (icao f 33 5).toNat with
  | 0 => .meTc0NoPosition h (OtherMe.ofFrame f)
  | 1 => .meTc1Identification h (Identification.ofFrame f)
  | 2 => .meTc2Identification h (Identification.ofFrame f)
  | 3 => .meTc3Identification h (Identification.ofFrame f)
  | 4 => .meTc4Identification h (Identification.ofFrame f)
  | 5 => .meTc5SurfacePosition h (SurfacePosition.ofFrame f)
  | 6 => .meTc6SurfacePosition h (SurfacePosition.ofFrame f)
  | 7 => .meTc7SurfacePosition h (SurfacePosition.ofFrame f)
  | 8 => .meTc8SurfacePosition h (SurfacePosition.ofFrame f)
  | 9 => .meTc9AirbornePositionBaro h (AirbornePosition.ofFrame f)
  | 10 => .meTc10AirbornePositionBaro h (AirbornePosition.ofFrame f)
  | 11 => .meTc11AirbornePositionBaro h (AirbornePosition.ofFrame f)
  | 12 => .meTc12AirbornePositionBaro h (AirbornePosition.ofFrame f)
  | 13 => .meTc13AirbornePositionBaro h (AirbornePosition.ofFrame f)
  | 14 => .meTc14AirbornePositionBaro h (AirbornePosition.ofFrame f)
  | 15 => .meTc15AirbornePositionBaro h (AirbornePosition.ofFrame f)
  | 16 => .meTc16AirbornePositionBaro h (AirbornePosition.ofFrame f)
  | 17 => .meTc17AirbornePositionBaro h (AirbornePosition.ofFrame f)
  | 18 => .meTc18AirbornePositionBaro h (AirbornePosition.ofFrame f)
  | 19 => decodeMe19 h f
  | 20 => .meTc20AirbornePositionGnss h (AirbornePosition.ofFrame f)
  | 21 => .meTc21AirbornePositionGnss h (AirbornePosition.ofFrame f)
  | 22 => .meTc22AirbornePositionGnss h (AirbornePosition.ofFrame f)
  | 23 => .meTc23Other h (OtherMe.ofFrame f)
  | 24 => .meTc24Other h (OtherMe.ofFrame f)
  | 25 => .meTc25Other h (OtherMe.ofFrame f)
  | 26 => .meTc26Other h (OtherMe.ofFrame f)
  | 27 => .meTc27Other h (OtherMe.ofFrame f)
  | 28 => .meTc28Other h (OtherMe.ofFrame f)
  | 29 => .meTc29Other h (OtherMe.ofFrame f)
  | 30 => .meTc30Other h (OtherMe.ofFrame f)
  | _ => .meTc31Other h (OtherMe.ofFrame f)

/-- The decoder. -/
def decode : Encoded → Except DecodeReject Instr
  | .command w a b => .ok (decodeCommand w a b)
  | .short f =>
    if f.msb then .error .longFormatInShortFrame else .ok (decodeReceived (f ++ 0#56 : BitVec (56 + 56)))
  | .long f =>
    if f.msb then .ok (decodeReceived f) else .error .shortFormatInLongFrame
  | .squitter fix f =>
    if !fix.inFrame then .error .fixOutsideFrame
    else if (SquitterHead.ofFrame fix f).receivedDf = 17#5 then .ok (decodeMe (SquitterHead.ofFrame fix f) f)
    else .error .notExtendedSquitter

/-! ### The encoder -/

/-- Concatenates a DF field and the rest of a 56-bit frame. -/
def shortFrame (df : BitVec 5) (rest : BitVec 51) : BitVec 56 := (df ++ rest : BitVec (5 + 51))

/-- Concatenates a DF field and the rest of a 112-bit frame. -/
def longFrame (df : BitVec 5) (rest : BitVec 107) : BitVec 112 := (df ++ rest : BitVec (5 + 107))

/-- R123. -/
def AirAirShort.bits (f : AirAirShort) : BitVec 51 :=
  f.vs ++ (f.cc ++ (f.spare8 ++ (f.sl ++ (f.spare12 ++ (f.ri ++ (f.spare18 ++ (f.ac ++ f.ap)))))))

/-- R123. -/
def AirAirLong.bits (f : AirAirLong) : BitVec 107 :=
  f.vs ++ (f.spare7 ++ (f.sl ++ (f.spare12 ++ (f.ri ++ (f.spare18 ++ (f.ac ++ (f.mv ++ f.ap)))))))

/-- R124. -/
def SurvAlt.bits (f : SurvAlt) : BitVec 51 := f.fs ++ (f.dr ++ (f.um ++ (f.ac ++ f.ap)))

/-- R125. -/
def SurvId.bits (f : SurvId) : BitVec 51 := f.fs ++ (f.dr ++ (f.um ++ (f.ident ++ f.ap)))

/-- R124. -/
def CommBAlt.bits (f : CommBAlt) : BitVec 107 := f.fs ++ (f.dr ++ (f.um ++ (f.ac ++ (f.mb ++ f.ap))))

/-- R125. -/
def CommBId.bits (f : CommBId) : BitVec 107 := f.fs ++ (f.dr ++ (f.um ++ (f.ident ++ (f.mb ++ f.ap))))

/-- R126. -/
def AllCall.bits (f : AllCall) : BitVec 51 := f.ca ++ (f.aa ++ f.parity)

/-- R127. -/
def ExtSquitter.bits (f : ExtSquitter) : BitVec 107 := f.ca ++ (f.aa ++ (f.me ++ f.parity))

/-- R134. -/
def CommD.frame (f : CommD) : BitVec 112 := 3#2 ++ (f.low ++ (f.cap ++ (f.body ++ f.ap)))

/-- R129, after TC. -/
def Identification.bits (m : Identification) : BitVec 51 := m.category ++ m.chars

/-- R130, after TC. -/
def SurfacePosition.bits (m : SurfacePosition) : BitVec 51 :=
  m.movement ++ (m.trackStatus ++ (m.track ++ (m.t ++ (m.f ++ (m.cprLat ++ m.cprLon)))))

/-- R131, after TC. -/
def AirbornePosition.bits (m : AirbornePosition) : BitVec 51 :=
  m.survStatus ++ (m.singleAntenna ++ (m.alt ++ (m.t ++ (m.f ++ (m.cprLat ++ m.cprLon)))))

/-- R132, after ST. -/
def VelocityGround.bits (m : VelocityGround) : BitVec 48 :=
  m.intent ++ (m.ifr ++ (m.nuc ++ (m.dew ++ (m.vew ++ (m.dns ++ (m.vns ++ (m.vrSource ++
    (m.svr ++ (m.vr ++ (m.reserved ++ (m.altDiffSign ++ m.altDiff)))))))))))

/-- R133, after ST. -/
def VelocityAir.bits (m : VelocityAir) : BitVec 48 :=
  m.intent ++ (m.ifr ++ (m.nuc ++ (m.headingStatus ++ (m.heading ++ (m.airspeedType ++ (m.airspeed ++ (m.vrSource ++
    (m.svr ++ (m.vr ++ (m.reserved ++ (m.altDiffSign ++ m.altDiff)))))))))))

/-- TC and ST only, after TC. -/
def OtherMe.bits (m : OtherMe) : BitVec 51 := m.st ++ m.body

/-- A DF17 frame from its head, TC and the rest of its ME field (R127). -/
def SquitterHead.frame (h : SquitterHead) (tc : BitVec 5) (rest : BitVec 51) : BitVec 112 :=
  h.dfBits ++ (h.ca ++ (h.aa ++ (tc ++ (rest ++ h.parity))))

/-- A DF17 frame with TC 19, from its head, ST and the rest of its ME field (R127, R132, R133). -/
def SquitterHead.frame19 (h : SquitterHead) (st : BitVec 3) (rest : BitVec 48) : BitVec 112 :=
  h.dfBits ++ (h.ca ++ (h.aa ++ (19#5 ++ (st ++ (rest ++ h.parity)))))

/-- The command word of an opcode and a selector (30_encoding R110). -/
def commandWord (op sel : BitVec 8) : U32 := 0#16 ++ (sel ++ op)

/-- The encoder: the words or the frame of a well-formed instruction. An operand a command does not use is 0. -/
def encode : Instr → Encoded
  | .nop => .command (commandWord 0 0) 0 0
  | .reset => .command (commandWord 1 0) 0 0
  | .regWrite sel a => .command (commandWord 2 sel) a 0
  | .regRead sel => .command (commandWord 3 sel) 0 0
  | .sampleWrite a b => .command (commandWord 4 0) a b
  | .sampleRead a => .command (commandWord 5 0) a 0
  | .process a b => .command (commandWord 6 0) a b
  | .cancel => .command (commandWord 7 0) 0 0
  | .sweep b => .command (commandWord 8 0) 0 b
  | .msgPop => .command (commandWord 9 0) 0 0
  | .trackRead a => .command (commandWord 10 0) a 0
  | .trackSlot a => .command (commandWord 11 0) a 0
  | .cacheInsert a b => .command (commandWord 12 0) a b
  | .cacheQuery a b => .command (commandWord 13 0) a b
  | .reservedCmd w => .command w 0 0
  | .df0ShortAirAir f => .short (shortFrame 0 f.bits)
  | .df1Unsupported body => .short (shortFrame 1 body)
  | .df2Unsupported body => .short (shortFrame 2 body)
  | .df3Unsupported body => .short (shortFrame 3 body)
  | .df4SurvAlt f => .short (shortFrame 4 f.bits)
  | .df5SurvId f => .short (shortFrame 5 f.bits)
  | .df6Unsupported body => .short (shortFrame 6 body)
  | .df7Unsupported body => .short (shortFrame 7 body)
  | .df8Unsupported body => .short (shortFrame 8 body)
  | .df9Unsupported body => .short (shortFrame 9 body)
  | .df10Unsupported body => .short (shortFrame 10 body)
  | .df11AllCall f => .short (shortFrame 11 f.bits)
  | .df12Unsupported body => .short (shortFrame 12 body)
  | .df13Unsupported body => .short (shortFrame 13 body)
  | .df14Unsupported body => .short (shortFrame 14 body)
  | .df15Unsupported body => .short (shortFrame 15 body)
  | .df16LongAirAir f => .long (longFrame 16 f.bits)
  | .df17ExtSquitter f => .long (longFrame 17 f.bits)
  | .df18Unsupported body => .long (longFrame 18 body)
  | .df19Unsupported body => .long (longFrame 19 body)
  | .df20CommbAlt f => .long (longFrame 20 f.bits)
  | .df21CommbId f => .long (longFrame 21 f.bits)
  | .df22Unsupported body => .long (longFrame 22 body)
  | .df23Unsupported body => .long (longFrame 23 body)
  | .df24CommD f => .long f.frame
  | .meTc0NoPosition h m => .squitter h.fix (h.frame 0 m.bits)
  | .meTc1Identification h m => .squitter h.fix (h.frame 1 m.bits)
  | .meTc2Identification h m => .squitter h.fix (h.frame 2 m.bits)
  | .meTc3Identification h m => .squitter h.fix (h.frame 3 m.bits)
  | .meTc4Identification h m => .squitter h.fix (h.frame 4 m.bits)
  | .meTc5SurfacePosition h m => .squitter h.fix (h.frame 5 m.bits)
  | .meTc6SurfacePosition h m => .squitter h.fix (h.frame 6 m.bits)
  | .meTc7SurfacePosition h m => .squitter h.fix (h.frame 7 m.bits)
  | .meTc8SurfacePosition h m => .squitter h.fix (h.frame 8 m.bits)
  | .meTc9AirbornePositionBaro h m => .squitter h.fix (h.frame 9 m.bits)
  | .meTc10AirbornePositionBaro h m => .squitter h.fix (h.frame 10 m.bits)
  | .meTc11AirbornePositionBaro h m => .squitter h.fix (h.frame 11 m.bits)
  | .meTc12AirbornePositionBaro h m => .squitter h.fix (h.frame 12 m.bits)
  | .meTc13AirbornePositionBaro h m => .squitter h.fix (h.frame 13 m.bits)
  | .meTc14AirbornePositionBaro h m => .squitter h.fix (h.frame 14 m.bits)
  | .meTc15AirbornePositionBaro h m => .squitter h.fix (h.frame 15 m.bits)
  | .meTc16AirbornePositionBaro h m => .squitter h.fix (h.frame 16 m.bits)
  | .meTc17AirbornePositionBaro h m => .squitter h.fix (h.frame 17 m.bits)
  | .meTc18AirbornePositionBaro h m => .squitter h.fix (h.frame 18 m.bits)
  | .meTc19St0Reserved h m => .squitter h.fix (h.frame19 0 m)
  | .meTc19St1VelocityGround h m => .squitter h.fix (h.frame19 1 m.bits)
  | .meTc19St2VelocityGround h m => .squitter h.fix (h.frame19 2 m.bits)
  | .meTc19St3VelocityAirspeed h m => .squitter h.fix (h.frame19 3 m.bits)
  | .meTc19St4VelocityAirspeed h m => .squitter h.fix (h.frame19 4 m.bits)
  | .meTc19St5Reserved h m => .squitter h.fix (h.frame19 5 m)
  | .meTc19St6Reserved h m => .squitter h.fix (h.frame19 6 m)
  | .meTc19St7Reserved h m => .squitter h.fix (h.frame19 7 m)
  | .meTc20AirbornePositionGnss h m => .squitter h.fix (h.frame 20 m.bits)
  | .meTc21AirbornePositionGnss h m => .squitter h.fix (h.frame 21 m.bits)
  | .meTc22AirbornePositionGnss h m => .squitter h.fix (h.frame 22 m.bits)
  | .meTc23Other h m => .squitter h.fix (h.frame 23 m.bits)
  | .meTc24Other h m => .squitter h.fix (h.frame 24 m.bits)
  | .meTc25Other h m => .squitter h.fix (h.frame 25 m.bits)
  | .meTc26Other h m => .squitter h.fix (h.frame 26 m.bits)
  | .meTc27Other h m => .squitter h.fix (h.frame 27 m.bits)
  | .meTc28Other h m => .squitter h.fix (h.frame 28 m.bits)
  | .meTc29Other h m => .squitter h.fix (h.frame 29 m.bits)
  | .meTc30Other h m => .squitter h.fix (h.frame 30 m.bits)
  | .meTc31Other h m => .squitter h.fix (h.frame 31 m.bits)

/-! ### Words of the opcode table -/

/-- A frame of 112 bits from the numbering of the opcode table: the first byte is bits 7:0 of w, the second bits 15:8,
and so on; the bytes stand in the frame in that order. -/
def frameOfBytes (w : Nat) : Nat → BitVec 112 → BitVec 112
  | 0, acc => acc
  | k + 1, acc => frameOfBytes (w / 256) k ((acc <<< 8) ||| BitVec.ofNat 112 (w % 256))

/-- A DF17 frame with a PI field that verifies (43_checksum R234): the 88 bits before it, then their checksum. -/
def sealSquitter (p : BitVec 88) : BitVec 112 :=
  (p ++ Machine.checksum (p ++ 0#24 : BitVec (88 + 24)) : BitVec (88 + 24))

/-- The DF17 frame that carries a lone ME byte: DF 17, the byte as frame byte 4, a PI field that verifies, since only a
verified frame reaches the ME dispatch, and every other field 0 (log 15). -/
def squitterOfByte (w : BitVec 8) : BitVec 112 := sealSquitter (17#5 ++ (0#27 ++ (w ++ 0#48)) : BitVec (5 + (27 + (8 + 48))))

/-- A byte of the table belongs to an ME_BYTE4 row with more fixed bits than the FRAME_DF row it also matches: TC 19 by
ST (mask 0xFF against 0xF8) and TC 24 to 31 (mask 0xF8 against 0xC0). Log 15. -/
def meRowIsMoreSpecific (w : BitVec 8) : Bool :=
  w.extractLsb' 3 5 == 19#5 || w.extractLsb' 6 2 == 3#2

/-- The instruction a lone byte of the table stands for: frame byte 0 of a FRAME_DF row, or byte 4 of a DF17 frame of an
ME_BYTE4 row where that row fixes more bits (log 15); every other bit is 0, but for the PI field of the DF17 frame. -/
def decodeTableByte (w : BitVec 8) : Except DecodeReject Instr :=
  if meRowIsMoreSpecific w then
    .ok (decodeMe (SquitterHead.ofFrame .none (squitterOfByte w)) (squitterOfByte w))
  else .ok (decodeReceived (w ++ 0#104 : BitVec 112))

/-- The instruction of a table word of nbits bits: 32 is a host command with operands 0; 8 is a lone frame byte; 56 and
112 are whole frames. -/
def decodeTable (nbits w : Nat) : Except DecodeReject Instr :=
  match nbits with
  | 32 => decode (.command (BitVec.ofNat 32 w) 0 0)
  | 8 => decodeTableByte (BitVec.ofNat 8 w)
  | 56 => decode (.short (shortPart (frameOfBytes w 14 0)))
  | 112 => decode (.long (frameOfBytes w 14 0))
  | _ => .error .noRowOfThisWidth

/-- The instruction the decoder reads from a table word, if it reads one. -/
def decodeTableWord (nbits w : Nat) : Option Instr := (decodeTable nbits w).toOption

end Sys2Proof
end

