-- ==== Sys2Proof/Machine/Accept.lean ====
section
/-! DEFINITION. The acceptance of a message: what 41_preamble R186 does with `accept(msg)`. -/

namespace Sys2Proof.Machine

/-- nbits of a frame (10_state R36). -/
def Frame.nbits : Frame → Nat
  | .short _ => 56
  | .long _ => 112

/-- The record that stages 6 and 7 of ATTEMPT pass on, with the fields 41_preamble R186 fills. -/
def State.record (s : State) (df : BitVec 5) (cap : BitVec 3) (a : U24) (fix : BitFix) (f : Frame) (p : Payload) :
    Message where
  df := df
  capability := cap
  icao := a
  crcOk := true
  correctedBit := fix
  frame := f
  offset := s.scan.j
  phaseCorrected := decide (s.scan.pst = .correcting)
  timestamp := s.scan.now
  payload := p

/-- ACC and the counters of an acceptance (41_preamble R186). -/
def State.countAccepted (s : State) : State :=
  let s1 := { s with scan := { s.scan with acc := s.scan.acc + 1 } }.count .accepted
  if s.scan.pst = .correcting then s1.count .phaseGood else s1

/-- J advances past the whole message: 16 + 2 · nbits samples (41_preamble R186). -/
def State.advancePast (s : State) (f : Frame) : State :=
  s.moveTo (s.scan.j + BitVec.ofNat 32 (16 + 2 * f.nbits)) .scanning

/-- `accept(msg)` in 41_preamble R186: count it, FIFO_PUSH, TRACK_UPDATE, advance, and end the step. DESIGN
CHOICE (log 3): W, BITS, ERRCNT, FR and NBITS, open between attempts (93 U4), keep the attempt's values. -/
def State.accept (s : State) (m : Message) : State :=
  ((((s.countAccepted).fifoPush m).trackUpdate m).advancePast m.frame).finish

end Sys2Proof.Machine
end

