-- ==== Sys2Proof/Machine/Fields.lean ====
section
/-! DEFINITION. The field functions of the MessageDecoder (44_decoder R252 to R273) and the payload each format gets. -/

namespace Sys2Proof.Machine

/-- AC13(a) (44_decoder R252): 25-foot codes only; n is a without its M and Q bits. -/
def ac13 (a : BitVec 13) : Option Int :=
  if a.getLsbD 6 = false ∧ a.getLsbD 4 = true then
    let n : BitVec 11 := a.extractLsb' 7 6 ++ (a.extractLsb' 5 1 ++ a.extractLsb' 0 4)
    some (25 * (n.toNat : Int) - 1000)
  else none

/-- AC12(a) (44_decoder R268): n is a without its Q bit. -/
def ac12 (a : BitVec 12) : Option Int :=
  if a.getLsbD 4 = true then
    let n : BitVec 11 := a.extractLsb' 5 7 ++ a.extractLsb' 0 4
    some (25 * (n.toNat : Int) - 1000)
  else none

/-- An octal digit from its bits of weight 4, 2 and 1. -/
def octal (b4 b2 b1 : Bool) : Nat := 4 * b4.toNat + 2 * b2.toNat + b1.toNat

/-- SQUAWK(a) (44_decoder R253): from the most significant bit down, C1 A1 C2 A2 C4 A4 X B1 D1 B2 D2 B4 D4. -/
def squawkOf (a : BitVec 13) : BitVec 16 :=
  let p := a.getMsbD
  BitVec.ofNat 16 (1000 * octal (p 5) (p 3) (p 1) + 100 * octal (p 11) (p 9) (p 7) +
    10 * octal (p 4) (p 2) (p 0) + octal (p 12) (p 10) (p 8))

/-- CHARSET codes 0 to 31 (44_decoder R264). -/
def charsetLow : List Char :=
  ['?', 'A', 'B', 'C', 'D', 'E', 'F', 'G', 'H', 'I', 'J', 'K', 'L', 'M', 'N', 'O',
   'P', 'Q', 'R', 'S', 'T', 'U', 'V', 'W', 'X', 'Y', 'Z', '?', '?', '?', '?', '?']

/-- CHARSET codes 32 to 63 (44_decoder R264). -/
def charsetHigh : List Char :=
  ' ' :: List.replicate 15 '?' ++ ['0', '1', '2', '3', '4', '5', '6', '7', '8', '9'] ++ List.replicate 6 '?'

/-- CHARSET[c] (44_decoder R264). -/
def charOf (c : BitVec 6) : Char := (charsetLow ++ charsetHigh).getD c.toNat '?'

/-- The eight characters C1 to C8 of an identification message (30_encoding R129). -/
def flightOf (chars : BitVec 48) : List Char :=
  (List.range 8).map (fun i => charOf (chars.extractLsb' (42 - 6 * i) 6))

/-- A number of eighths of a knot. Every value of 44_decoder R266 is one, and exact. -/
def eighths (n : Nat) : F64 := F64.div (F64.ofNat n) (F64.ofNat 8)

/-- MOVEMENT(m) (44_decoder R266). -/
def movementOf (m : BitVec 7) : Option F64 :=
  let k := m.toNat
  if k = 0 then none
  else if k = 1 then some (eighths 0)
  else if k ≤ 8 then some (eighths (1 + (k - 2)))
  else if k ≤ 12 then some (eighths (8 + 2 * (k - 9)))
  else if k ≤ 38 then some (eighths (16 + 4 * (k - 13)))
  else if k ≤ 93 then some (eighths (120 + 8 * (k - 39)))
  else if k ≤ 108 then some (eighths (560 + 16 * (k - 94)))
  else if k ≤ 123 then some (eighths (800 + 40 * (k - 109)))
  else if k = 124 then some (eighths 1400)
  else none

/-- A code scaled to degrees: code · 360 / unitsPerTurn in binary64 (44_decoder R265, R271). -/
def turnDegrees (code unitsPerTurn : Nat) : F64 :=
  F64.div (F64.mul (F64.ofNat code) (F64.ofNat 360)) (F64.ofNat unitsPerTurn)

/-- A magnitude with the sign of its sign bit: negative when the bit is 1 (44_decoder R270, R272). -/
def signed (sign : BitVec 1) (v : Nat) : Int := if isOne sign then -(v : Int) else (v : Int)

/-- The supersonic factor of 44_decoder R270 and R271. -/
def speedFactor (supersonic : Bool) : Nat := if supersonic then 4 else 1

/-- The vertical rate (44_decoder R272). -/
def vertRate (svr : BitVec 1) (vr : BitVec 9) : Option Int :=
  if vr = 0#9 then none else some (signed svr ((vr.toNat - 1) * 64))

/-! ### Payloads by format -/

/-- DF0 and DF16 (44_decoder R254, R258). -/
def altitudePayload (ac : BitVec 13) : Payload := { altitudeFt := ac13 ac }

/-- DF4 and DF20 (44_decoder R255, R259). -/
def survAltPayload (fs : BitVec 3) (ac : BitVec 13) : Payload := { flightStatus := some fs, altitudeFt := ac13 ac }

/-- DF5 and DF21 (44_decoder R256, R260). -/
def survIdPayload (fs : BitVec 3) (ident : BitVec 13) : Payload :=
  { flightStatus := some fs, squawk := some (squawkOf ident) }

/-- TC and ST, set for every DF17 record (44_decoder R262); alone, the payload of R273. -/
def typePayload (tc : BitVec 5) (st : BitVec 3) : Payload := { meType := some tc, meSubtype := some st }

/-- Identification (44_decoder R263). -/
def identPayload (tc : BitVec 5) (m : Identification) : Payload :=
  { typePayload tc m.category with category := some m.category, flight := some (flightOf m.chars) }

/-- Surface position (44_decoder R265); F⟨38..40⟩, the ST of R262, is the top of the movement field. -/
def surfacePayload (tc : BitVec 5) (m : SurfacePosition) : Payload :=
  { typePayload tc (m.movement.extractLsb' 4 3) with
    surface := some true
    gsKt := movementOf m.movement
    trackDeg := if isOne m.trackStatus then some (turnDegrees m.track.toNat 128) else none
    cprUtc := some m.t
    cprFormat := some m.f
    cprLat := some m.cprLat
    cprLon := some m.cprLon }

/-- Airborne position with GNSS height (44_decoder R269): no altitude; F⟨38..40⟩ is the surveillance status and the
single-antenna flag. -/
def gnssPayload (tc : BitVec 5) (m : AirbornePosition) : Payload :=
  { typePayload tc (m.survStatus ++ m.singleAntenna : BitVec 3) with
    surface := some false
    cprUtc := some m.t
    cprFormat := some m.f
    cprLat := some m.cprLat
    cprLon := some m.cprLon }

/-- Airborne position with barometric altitude (44_decoder R267). -/
def baroPayload (tc : BitVec 5) (m : AirbornePosition) : Payload :=
  { gnssPayload tc m with altitudeFt := ac12 m.alt }

/-- The east-west velocity in knots (44_decoder R270). -/
def velEw (supersonic : Bool) (m : VelocityGround) : Int := signed m.dew ((m.vew.toNat - 1) * speedFactor supersonic)

/-- The north-south velocity in knots (44_decoder R270). -/
def velNs (supersonic : Bool) (m : VelocityGround) : Int := signed m.dns ((m.vns.toNat - 1) * speedFactor supersonic)

/-- The ground track of a velocity, in [0, 360) (44_decoder R270). -/
def groundTrack (vx vy : Int) : F64 :=
  let t := F64.deg (Config.ATAN2 (F64.ofInt vx) (F64.ofInt vy))
  if F64.lt t (F64.zero false) then F64.add t (F64.ofNat 360) else t

/-- The ground speed of a velocity (44_decoder R270). -/
def groundSpeed (vx vy : Int) : F64 :=
  F64.sqrt (F64.add (F64.mul (F64.ofInt vx) (F64.ofInt vx)) (F64.mul (F64.ofInt vy) (F64.ofInt vy)))

/-- Velocity over ground (44_decoder R270, R272). -/
def velocityGroundPayload (st : BitVec 3) (supersonic : Bool) (m : VelocityGround) : Payload :=
  let base := { typePayload 19#5 st with vertRateFpm := vertRate m.svr m.vr }
  if m.vew ≠ 0#10 ∧ m.vns ≠ 0#10 then
    { base with
      velEwKt := some (velEw supersonic m)
      velNsKt := some (velNs supersonic m)
      gsKt := some (groundSpeed (velEw supersonic m) (velNs supersonic m))
      trackDeg := some (groundTrack (velEw supersonic m) (velNs supersonic m)) }
  else base

/-- Airspeed and heading (44_decoder R271, R272). -/
def velocityAirPayload (st : BitVec 3) (supersonic : Bool) (m : VelocityAir) : Payload :=
  { typePayload 19#5 st with
    headingDeg := if isOne m.headingStatus then some (turnDegrees m.heading.toNat 1024) else none
    airspeedKt := if m.airspeed = 0#10 then none else some ((m.airspeed.toNat - 1) * speedFactor supersonic)
    airspeedType := if m.airspeed = 0#10 then none else some (if isOne m.airspeedType then .tas else .ias)
    vertRateFpm := vertRate m.svr m.vr }

end Sys2Proof.Machine
end

