-- ==== Sys2Proof/Machine/Surveillance.lean ====
section
/-! DEFINITION. The meanings of the downlink formats but DF17: what a decode attempt does with the sliced frame from the
checksum stage on (41_preamble R184 stages 6 and 7, 43_checksum R222 to R229, 44_decoder R250 to R261), and what the
scan step does with its answer (41_preamble R186). -/

namespace Sys2Proof.Machine

/-! ### Address parity -/

/-- The syndrome of a frame, over its own length (43_checksum R220). -/
def Frame.syndrome : Frame → U24
  | .short f => Machine.syndrome f
  | .long f => Machine.syndrome f

/-- F⟨1..5⟩ of a frame (30_encoding R121). -/
def Frame.dfField : Frame → BitVec 5
  | .short f => icao f 1 5
  | .long f => icao f 1 5

/-- F⟨6..8⟩ of a frame, the capability of its record (30_encoding R122). -/
def Frame.capability : Frame → BitVec 3
  | .short f => icao f 6 3
  | .long f => icao f 6 3

/-- AP verification (43_checksum R226) and what follows it: an address found in the cache is the record's icao and the
message is accepted with the payload; another address rejects the attempt. -/
def State.verifyAp (s : State) (f : Frame) (p : Payload) : State :=
  if s.cacheFound (f.syndrome.setWidth 32) s.scan.now then
    (s.count .apOk).accept (s.record f.dfField f.capability f.syndrome .none f p)
  else s.reject .apUnknown

/-- DF0, short air-air surveillance (R254). -/
def execDf0ShortAirAir (f : AirAirShort) (s : State) : Result :=
  .next (s.verifyAp (.short (shortFrame 0 f.bits)) (altitudePayload f.ac))

/-- DF4, surveillance altitude reply (R255). -/
def execDf4SurvAlt (f : SurvAlt) (s : State) : Result :=
  .next (s.verifyAp (.short (shortFrame 4 f.bits)) (survAltPayload f.fs f.ac))

/-- DF5, surveillance identity reply (R256). -/
def execDf5SurvId (f : SurvId) (s : State) : Result :=
  .next (s.verifyAp (.short (shortFrame 5 f.bits)) (survIdPayload f.fs f.ident))

/-- DF16, long air-air surveillance (R258). -/
def execDf16LongAirAir (f : AirAirLong) (s : State) : Result :=
  .next (s.verifyAp (.long (longFrame 16 f.bits)) (altitudePayload f.ac))

/-- DF20, Comm-B altitude reply (R259). -/
def execDf20CommbAlt (f : CommBAlt) (s : State) : Result :=
  .next (s.verifyAp (.long (longFrame 20 f.bits)) (survAltPayload f.fs f.ac))

/-- DF21, Comm-B identity reply (R260). -/
def execDf21CommbId (f : CommBId) (s : State) : Result :=
  .next (s.verifyAp (.long (longFrame 21 f.bits)) (survIdPayload f.fs f.ident))

/-- DF24 to DF31, Comm-D (R261): no payload field; the record's df is the DF field as received. -/
def execDf24CommD (f : CommD) (s : State) : Result := .next (s.verifyAp (.long f.frame) {})

/-! ### All-call reply -/

/-- FR <- a corrected 56-bit frame: bytes 7 to 13 are not part of it and stay (10_state R36, 43_checksum R224). -/
def State.setShortFrame (s : State) (f : BitVec 56) : State :=
  { s with dp := { s.dp with fr := (f ++ s.dp.fr.extractLsb' 0 56 : BitVec (56 + 56)) } }

/-- A verified DF11 frame is accepted: df stays 11 (43_checksum R227), CA and AA are read from the frame after
correction, and there is no payload field (R257). -/
def State.acceptAllCall (s : State) (fix : BitFix) (f : BitVec 56) : State :=
  s.accept (s.record 11#5 (icao f 6 3) (icao f 9 24) fix (.short f) {})

/-- DF11, all-call reply (R257), after PLAIN verification (43_checksum R223, R224, R228). -/
def execDf11AllCall (f : AllCall) (s : State) : Result :=
  let frame := shortFrame 11 f.bits
  if checksum frame = txField frame then
    .next (((s.count .crcGood).cacheInsert ((icao frame 9 24).setWidth 32) s.scan.now).acceptAllCall .none frame)
  else
    match fix1 frame with
    | some p =>
      .next (((s.count .fix1).setShortFrame (flipBit frame p)).acceptAllCall (.single (BitVec.ofNat 7 p))
        (flipBit frame p))
    | none => .next (s.reject .crcBad)

/-! ### Downlink formats of no supported class (43_checksum R222) -/

/-- DF1: rejected as DfUnsupported (R222). -/
def execDf1Unsupported (_body : BitVec 51) (s : State) : Result := .next (s.reject .dfUnsupported)

/-- DF2: rejected as DfUnsupported (R222). -/
def execDf2Unsupported (_body : BitVec 51) (s : State) : Result := .next (s.reject .dfUnsupported)

/-- DF3: rejected as DfUnsupported (R222). -/
def execDf3Unsupported (_body : BitVec 51) (s : State) : Result := .next (s.reject .dfUnsupported)

/-- DF6: rejected as DfUnsupported (R222). -/
def execDf6Unsupported (_body : BitVec 51) (s : State) : Result := .next (s.reject .dfUnsupported)

/-- DF7: rejected as DfUnsupported (R222). -/
def execDf7Unsupported (_body : BitVec 51) (s : State) : Result := .next (s.reject .dfUnsupported)

/-- DF8: rejected as DfUnsupported (R222). -/
def execDf8Unsupported (_body : BitVec 51) (s : State) : Result := .next (s.reject .dfUnsupported)

/-- DF9: rejected as DfUnsupported (R222). -/
def execDf9Unsupported (_body : BitVec 51) (s : State) : Result := .next (s.reject .dfUnsupported)

/-- DF10: rejected as DfUnsupported (R222). -/
def execDf10Unsupported (_body : BitVec 51) (s : State) : Result := .next (s.reject .dfUnsupported)

/-- DF12: rejected as DfUnsupported (R222). -/
def execDf12Unsupported (_body : BitVec 51) (s : State) : Result := .next (s.reject .dfUnsupported)

/-- DF13: rejected as DfUnsupported (R222). -/
def execDf13Unsupported (_body : BitVec 51) (s : State) : Result := .next (s.reject .dfUnsupported)

/-- DF14: rejected as DfUnsupported (R222). -/
def execDf14Unsupported (_body : BitVec 51) (s : State) : Result := .next (s.reject .dfUnsupported)

/-- DF15: rejected as DfUnsupported (R222). -/
def execDf15Unsupported (_body : BitVec 51) (s : State) : Result := .next (s.reject .dfUnsupported)

/-- DF18: rejected as DfUnsupported (R222). -/
def execDf18Unsupported (_body : BitVec 107) (s : State) : Result := .next (s.reject .dfUnsupported)

/-- DF19: rejected as DfUnsupported (R222). -/
def execDf19Unsupported (_body : BitVec 107) (s : State) : Result := .next (s.reject .dfUnsupported)

/-- DF22: rejected as DfUnsupported (R222). -/
def execDf22Unsupported (_body : BitVec 107) (s : State) : Result := .next (s.reject .dfUnsupported)

/-- DF23: rejected as DfUnsupported (R222). -/
def execDf23Unsupported (_body : BitVec 107) (s : State) : Result := .next (s.reject .dfUnsupported)

end Sys2Proof.Machine
end

