-- ==== Sys2Proof/Machine/Squitter.lean ====
section
/-! DEFINITION. The meanings of DF17 extended squitter and of its ME messages: PLAIN verification with single- and
double-bit correction (43_checksum R223 to R229), the ME dispatch (44_decoder R262), and the acceptance of the message with
the payload of its ME type (R263 to R273). -/

namespace Sys2Proof.Machine

/-- A verified DF17 message is accepted: df is 17 as received (43_checksum R227); CA, AA and the correction are the head's
(R229). -/
def State.acceptSquitter (s : State) (h : SquitterHead) (f : BitVec 112) (p : Payload) : State :=
  s.accept (s.record 17#5 h.ca h.aa h.fix (.long f) p)

/-! ### ME messages -/

/-- TC 0: TC and ST only (R273). -/
def execMeTc0NoPosition (h : SquitterHead) (m : OtherMe) (s : State) : Result :=
  .next (s.acceptSquitter h (h.frame 0 m.bits) (typePayload 0 m.st))

/-- TC 1: identification (R263). -/
def execMeTc1Identification (h : SquitterHead) (m : Identification) (s : State) : Result :=
  .next (s.acceptSquitter h (h.frame 1 m.bits) (identPayload 1 m))

/-- TC 2: identification (R263). -/
def execMeTc2Identification (h : SquitterHead) (m : Identification) (s : State) : Result :=
  .next (s.acceptSquitter h (h.frame 2 m.bits) (identPayload 2 m))

/-- TC 3: identification (R263). -/
def execMeTc3Identification (h : SquitterHead) (m : Identification) (s : State) : Result :=
  .next (s.acceptSquitter h (h.frame 3 m.bits) (identPayload 3 m))

/-- TC 4: identification (R263). -/
def execMeTc4Identification (h : SquitterHead) (m : Identification) (s : State) : Result :=
  .next (s.acceptSquitter h (h.frame 4 m.bits) (identPayload 4 m))

/-- TC 5: surface position (R265). -/
def execMeTc5SurfacePosition (h : SquitterHead) (m : SurfacePosition) (s : State) : Result :=
  .next (s.acceptSquitter h (h.frame 5 m.bits) (surfacePayload 5 m))

/-- TC 6: surface position (R265). -/
def execMeTc6SurfacePosition (h : SquitterHead) (m : SurfacePosition) (s : State) : Result :=
  .next (s.acceptSquitter h (h.frame 6 m.bits) (surfacePayload 6 m))

/-- TC 7: surface position (R265). -/
def execMeTc7SurfacePosition (h : SquitterHead) (m : SurfacePosition) (s : State) : Result :=
  .next (s.acceptSquitter h (h.frame 7 m.bits) (surfacePayload 7 m))

/-- TC 8: surface position (R265). -/
def execMeTc8SurfacePosition (h : SquitterHead) (m : SurfacePosition) (s : State) : Result :=
  .next (s.acceptSquitter h (h.frame 8 m.bits) (surfacePayload 8 m))

/-- TC 9: airborne position, barometric altitude (R267). -/
def execMeTc9AirbornePositionBaro (h : SquitterHead) (m : AirbornePosition) (s : State) : Result :=
  .next (s.acceptSquitter h (h.frame 9 m.bits) (baroPayload 9 m))

/-- TC 10: airborne position, barometric altitude (R267). -/
def execMeTc10AirbornePositionBaro (h : SquitterHead) (m : AirbornePosition) (s : State) : Result :=
  .next (s.acceptSquitter h (h.frame 10 m.bits) (baroPayload 10 m))

/-- TC 11: airborne position, barometric altitude (R267). -/
def execMeTc11AirbornePositionBaro (h : SquitterHead) (m : AirbornePosition) (s : State) : Result :=
  .next (s.acceptSquitter h (h.frame 11 m.bits) (baroPayload 11 m))

/-- TC 12: airborne position, barometric altitude (R267). -/
def execMeTc12AirbornePositionBaro (h : SquitterHead) (m : AirbornePosition) (s : State) : Result :=
  .next (s.acceptSquitter h (h.frame 12 m.bits) (baroPayload 12 m))

/-- TC 13: airborne position, barometric altitude (R267). -/
def execMeTc13AirbornePositionBaro (h : SquitterHead) (m : AirbornePosition) (s : State) : Result :=
  .next (s.acceptSquitter h (h.frame 13 m.bits) (baroPayload 13 m))

/-- TC 14: airborne position, barometric altitude (R267). -/
def execMeTc14AirbornePositionBaro (h : SquitterHead) (m : AirbornePosition) (s : State) : Result :=
  .next (s.acceptSquitter h (h.frame 14 m.bits) (baroPayload 14 m))

/-- TC 15: airborne position, barometric altitude (R267). -/
def execMeTc15AirbornePositionBaro (h : SquitterHead) (m : AirbornePosition) (s : State) : Result :=
  .next (s.acceptSquitter h (h.frame 15 m.bits) (baroPayload 15 m))

/-- TC 16: airborne position, barometric altitude (R267). -/
def execMeTc16AirbornePositionBaro (h : SquitterHead) (m : AirbornePosition) (s : State) : Result :=
  .next (s.acceptSquitter h (h.frame 16 m.bits) (baroPayload 16 m))

/-- TC 17: airborne position, barometric altitude (R267). -/
def execMeTc17AirbornePositionBaro (h : SquitterHead) (m : AirbornePosition) (s : State) : Result :=
  .next (s.acceptSquitter h (h.frame 17 m.bits) (baroPayload 17 m))

/-- TC 18: airborne position, barometric altitude (R267). -/
def execMeTc18AirbornePositionBaro (h : SquitterHead) (m : AirbornePosition) (s : State) : Result :=
  .next (s.acceptSquitter h (h.frame 18 m.bits) (baroPayload 18 m))

/-- TC 19, ST 0: reserved subtype, TC and ST only (R273). -/
def execMeTc19St0Reserved (h : SquitterHead) (m : BitVec 48) (s : State) : Result :=
  .next (s.acceptSquitter h (h.frame19 0 m) (typePayload 19 0))

/-- TC 19, ST 1: velocity over ground (R270). -/
def execMeTc19St1VelocityGround (h : SquitterHead) (m : VelocityGround) (s : State) : Result :=
  .next (s.acceptSquitter h (h.frame19 1 m.bits) (velocityGroundPayload 1 false m))

/-- TC 19, ST 2: velocity over ground (R270). -/
def execMeTc19St2VelocityGround (h : SquitterHead) (m : VelocityGround) (s : State) : Result :=
  .next (s.acceptSquitter h (h.frame19 2 m.bits) (velocityGroundPayload 2 true m))

/-- TC 19, ST 3: airspeed and heading (R271). -/
def execMeTc19St3VelocityAirspeed (h : SquitterHead) (m : VelocityAir) (s : State) : Result :=
  .next (s.acceptSquitter h (h.frame19 3 m.bits) (velocityAirPayload 3 false m))

/-- TC 19, ST 4: airspeed and heading (R271). -/
def execMeTc19St4VelocityAirspeed (h : SquitterHead) (m : VelocityAir) (s : State) : Result :=
  .next (s.acceptSquitter h (h.frame19 4 m.bits) (velocityAirPayload 4 true m))

/-- TC 19, ST 5: reserved subtype, TC and ST only (R273). -/
def execMeTc19St5Reserved (h : SquitterHead) (m : BitVec 48) (s : State) : Result :=
  .next (s.acceptSquitter h (h.frame19 5 m) (typePayload 19 5))

/-- TC 19, ST 6: reserved subtype, TC and ST only (R273). -/
def execMeTc19St6Reserved (h : SquitterHead) (m : BitVec 48) (s : State) : Result :=
  .next (s.acceptSquitter h (h.frame19 6 m) (typePayload 19 6))

/-- TC 19, ST 7: reserved subtype, TC and ST only (R273). -/
def execMeTc19St7Reserved (h : SquitterHead) (m : BitVec 48) (s : State) : Result :=
  .next (s.acceptSquitter h (h.frame19 7 m) (typePayload 19 7))

/-- TC 20: airborne position, GNSS height (R269). -/
def execMeTc20AirbornePositionGnss (h : SquitterHead) (m : AirbornePosition) (s : State) : Result :=
  .next (s.acceptSquitter h (h.frame 20 m.bits) (gnssPayload 20 m))

/-- TC 21: airborne position, GNSS height (R269). -/
def execMeTc21AirbornePositionGnss (h : SquitterHead) (m : AirbornePosition) (s : State) : Result :=
  .next (s.acceptSquitter h (h.frame 21 m.bits) (gnssPayload 21 m))

/-- TC 22: airborne position, GNSS height (R269). -/
def execMeTc22AirbornePositionGnss (h : SquitterHead) (m : AirbornePosition) (s : State) : Result :=
  .next (s.acceptSquitter h (h.frame 22 m.bits) (gnssPayload 22 m))

/-- TC 23: TC and ST only (R273). -/
def execMeTc23Other (h : SquitterHead) (m : OtherMe) (s : State) : Result :=
  .next (s.acceptSquitter h (h.frame 23 m.bits) (typePayload 23 m.st))

/-- TC 24: TC and ST only (R273). -/
def execMeTc24Other (h : SquitterHead) (m : OtherMe) (s : State) : Result :=
  .next (s.acceptSquitter h (h.frame 24 m.bits) (typePayload 24 m.st))

/-- TC 25: TC and ST only (R273). -/
def execMeTc25Other (h : SquitterHead) (m : OtherMe) (s : State) : Result :=
  .next (s.acceptSquitter h (h.frame 25 m.bits) (typePayload 25 m.st))

/-- TC 26: TC and ST only (R273). -/
def execMeTc26Other (h : SquitterHead) (m : OtherMe) (s : State) : Result :=
  .next (s.acceptSquitter h (h.frame 26 m.bits) (typePayload 26 m.st))

/-- TC 27: TC and ST only (R273). -/
def execMeTc27Other (h : SquitterHead) (m : OtherMe) (s : State) : Result :=
  .next (s.acceptSquitter h (h.frame 27 m.bits) (typePayload 27 m.st))

/-- TC 28: TC and ST only (R273). -/
def execMeTc28Other (h : SquitterHead) (m : OtherMe) (s : State) : Result :=
  .next (s.acceptSquitter h (h.frame 28 m.bits) (typePayload 28 m.st))

/-- TC 29: TC and ST only (R273). -/
def execMeTc29Other (h : SquitterHead) (m : OtherMe) (s : State) : Result :=
  .next (s.acceptSquitter h (h.frame 29 m.bits) (typePayload 29 m.st))

/-- TC 30: TC and ST only (R273). -/
def execMeTc30Other (h : SquitterHead) (m : OtherMe) (s : State) : Result :=
  .next (s.acceptSquitter h (h.frame 30 m.bits) (typePayload 30 m.st))

/-- TC 31: TC and ST only (R273). -/
def execMeTc31Other (h : SquitterHead) (m : OtherMe) (s : State) : Result :=
  .next (s.acceptSquitter h (h.frame 31 m.bits) (typePayload 31 m.st))

/-! ### The ME dispatch (44_decoder R262) -/

/-- TC 19 by ST. -/
def execSquitter19 (h : SquitterHead) (f : BitVec 112) (s : State) : Result :=
  match (icao f 38 3).toNat with
  | 0 => execMeTc19St0Reserved h (icao f 41 48) s
  | 1 => execMeTc19St1VelocityGround h (VelocityGround.ofFrame f) s
  | 2 => execMeTc19St2VelocityGround h (VelocityGround.ofFrame f) s
  | 3 => execMeTc19St3VelocityAirspeed h (VelocityAir.ofFrame f) s
  | 4 => execMeTc19St4VelocityAirspeed h (VelocityAir.ofFrame f) s
  | 5 => execMeTc19St5Reserved h (icao f 41 48) s
  | 6 => execMeTc19St6Reserved h (icao f 41 48) s
  | _ => execMeTc19St7Reserved h (icao f 41 48) s

/-- Exactly one rule by TC = F⟨33..37⟩, on the frame after correction (44_decoder R262). -/
def execSquitter (h : SquitterHead) (f : BitVec 112) (s : State) : Result :=
  match (icao f 33 5).toNat with
  | 0 => execMeTc0NoPosition h (OtherMe.ofFrame f) s
  | 1 => execMeTc1Identification h (Identification.ofFrame f) s
  | 2 => execMeTc2Identification h (Identification.ofFrame f) s
  | 3 => execMeTc3Identification h (Identification.ofFrame f) s
  | 4 => execMeTc4Identification h (Identification.ofFrame f) s
  | 5 => execMeTc5SurfacePosition h (SurfacePosition.ofFrame f) s
  | 6 => execMeTc6SurfacePosition h (SurfacePosition.ofFrame f) s
  | 7 => execMeTc7SurfacePosition h (SurfacePosition.ofFrame f) s
  | 8 => execMeTc8SurfacePosition h (SurfacePosition.ofFrame f) s
  | 9 => execMeTc9AirbornePositionBaro h (AirbornePosition.ofFrame f) s
  | 10 => execMeTc10AirbornePositionBaro h (AirbornePosition.ofFrame f) s
  | 11 => execMeTc11AirbornePositionBaro h (AirbornePosition.ofFrame f) s
  | 12 => execMeTc12AirbornePositionBaro h (AirbornePosition.ofFrame f) s
  | 13 => execMeTc13AirbornePositionBaro h (AirbornePosition.ofFrame f) s
  | 14 => execMeTc14AirbornePositionBaro h (AirbornePosition.ofFrame f) s
  | 15 => execMeTc15AirbornePositionBaro h (AirbornePosition.ofFrame f) s
  | 16 => execMeTc16AirbornePositionBaro h (AirbornePosition.ofFrame f) s
  | 17 => execMeTc17AirbornePositionBaro h (AirbornePosition.ofFrame f) s
  | 18 => execMeTc18AirbornePositionBaro h (AirbornePosition.ofFrame f) s
  | 19 => execSquitter19 h f s
  | 20 => execMeTc20AirbornePositionGnss h (AirbornePosition.ofFrame f) s
  | 21 => execMeTc21AirbornePositionGnss h (AirbornePosition.ofFrame f) s
  | 22 => execMeTc22AirbornePositionGnss h (AirbornePosition.ofFrame f) s
  | 23 => execMeTc23Other h (OtherMe.ofFrame f) s
  | 24 => execMeTc24Other h (OtherMe.ofFrame f) s
  | 25 => execMeTc25Other h (OtherMe.ofFrame f) s
  | 26 => execMeTc26Other h (OtherMe.ofFrame f) s
  | 27 => execMeTc27Other h (OtherMe.ofFrame f) s
  | 28 => execMeTc28Other h (OtherMe.ofFrame f) s
  | 29 => execMeTc29Other h (OtherMe.ofFrame f) s
  | 30 => execMeTc30Other h (OtherMe.ofFrame f) s
  | _ => execMeTc31Other h (OtherMe.ofFrame f) s

/-! ### DF17 (44_decoder R262, 43_checksum R223) -/

/-- FR <- a corrected 112-bit frame (43_checksum R224, R225). -/
def State.setLongFrame (s : State) (f : BitVec 112) : State := { s with dp := { s.dp with fr := f } }

/-- The frame after correction goes to the decoder (43_checksum R227, R229). -/
def decodeSquitter (s : State) (fix : BitFix) (f : BitVec 112) : Result :=
  execSquitter (SquitterHead.ofFrame fix f) f s

/-- The double-bit correction of a DF17 frame, tried in aggressive mode only (43_checksum R223, R225). -/
def fix2IfAggressive (s : State) (f : BitVec 112) : Option (Nat × Nat) := if s.regs.aggr then fix2 f else none

/-- DF17, extended squitter: PLAIN verification (43_checksum R223), then the ME dispatch (44_decoder R262). -/
def execDf17ExtSquitter (f : ExtSquitter) (s : State) : Result :=
  let frame := longFrame 17 f.bits
  if checksum frame = txField frame then
    decodeSquitter ((s.count .crcGood).cacheInsert ((icao frame 9 24).setWidth 32) s.scan.now) .none frame
  else
    match fix1 frame with
    | some p =>
      decodeSquitter ((s.count .fix1).setLongFrame (flipBit frame p)) (.single (BitVec.ofNat 7 p)) (flipBit frame p)
    | none =>
      match fix2IfAggressive s frame with
      | some (p1, p2) =>
        decodeSquitter ((s.count .fix2).setLongFrame (flipBit (flipBit frame p1) p2))
          (.double (BitVec.ofNat 7 p1) (BitVec.ofNat 7 p2)) (flipBit (flipBit frame p1) p2)
      | none => .next (s.reject .crcBad)

end Sys2Proof.Machine
end

