-- ==== Sys2Proof/Machine/Dispatch.lean ====
section
/-! DEFINITION. The dispatch: one arm for each constructor of Instr. -/

namespace Sys2Proof.Machine

/-- What an instruction does. -/
def exec (i : Instr) (s : State) : Host.Outcome State Fault Refusal :=
  match i with
  | .nop => Sys2Proof.Machine.execNop s
  | .reset => Sys2Proof.Machine.execReset s
  | .regWrite sel a => Sys2Proof.Machine.execRegWrite sel a s
  | .regRead sel => Sys2Proof.Machine.execRegRead sel s
  | .sampleWrite a b => Sys2Proof.Machine.execSampleWrite a b s
  | .sampleRead a => Sys2Proof.Machine.execSampleRead a s
  | .process a b => Sys2Proof.Machine.execProcess a b s
  | .cancel => Sys2Proof.Machine.execCancel s
  | .sweep b => Sys2Proof.Machine.execSweep b s
  | .msgPop => Sys2Proof.Machine.execMsgPop s
  | .trackRead a => Sys2Proof.Machine.execTrackRead a s
  | .trackSlot a => Sys2Proof.Machine.execTrackSlot a s
  | .cacheInsert a b => Sys2Proof.Machine.execCacheInsert a b s
  | .cacheQuery a b => Sys2Proof.Machine.execCacheQuery a b s
  | .reservedCmd word => Sys2Proof.Machine.execReservedCmd word s
  | .df0ShortAirAir f => Sys2Proof.Machine.execDf0ShortAirAir f s
  | .df1Unsupported body => Sys2Proof.Machine.execDf1Unsupported body s
  | .df2Unsupported body => Sys2Proof.Machine.execDf2Unsupported body s
  | .df3Unsupported body => Sys2Proof.Machine.execDf3Unsupported body s
  | .df4SurvAlt f => Sys2Proof.Machine.execDf4SurvAlt f s
  | .df5SurvId f => Sys2Proof.Machine.execDf5SurvId f s
  | .df6Unsupported body => Sys2Proof.Machine.execDf6Unsupported body s
  | .df7Unsupported body => Sys2Proof.Machine.execDf7Unsupported body s
  | .df8Unsupported body => Sys2Proof.Machine.execDf8Unsupported body s
  | .df9Unsupported body => Sys2Proof.Machine.execDf9Unsupported body s
  | .df10Unsupported body => Sys2Proof.Machine.execDf10Unsupported body s
  | .df11AllCall f => Sys2Proof.Machine.execDf11AllCall f s
  | .df12Unsupported body => Sys2Proof.Machine.execDf12Unsupported body s
  | .df13Unsupported body => Sys2Proof.Machine.execDf13Unsupported body s
  | .df14Unsupported body => Sys2Proof.Machine.execDf14Unsupported body s
  | .df15Unsupported body => Sys2Proof.Machine.execDf15Unsupported body s
  | .df16LongAirAir f => Sys2Proof.Machine.execDf16LongAirAir f s
  | .df17ExtSquitter f => Sys2Proof.Machine.execDf17ExtSquitter f s
  | .df18Unsupported body => Sys2Proof.Machine.execDf18Unsupported body s
  | .df19Unsupported body => Sys2Proof.Machine.execDf19Unsupported body s
  | .df20CommbAlt f => Sys2Proof.Machine.execDf20CommbAlt f s
  | .df21CommbId f => Sys2Proof.Machine.execDf21CommbId f s
  | .df22Unsupported body => Sys2Proof.Machine.execDf22Unsupported body s
  | .df23Unsupported body => Sys2Proof.Machine.execDf23Unsupported body s
  | .df24CommD f => Sys2Proof.Machine.execDf24CommD f s
  | .meTc0NoPosition h m => Sys2Proof.Machine.execMeTc0NoPosition h m s
  | .meTc1Identification h m => Sys2Proof.Machine.execMeTc1Identification h m s
  | .meTc2Identification h m => Sys2Proof.Machine.execMeTc2Identification h m s
  | .meTc3Identification h m => Sys2Proof.Machine.execMeTc3Identification h m s
  | .meTc4Identification h m => Sys2Proof.Machine.execMeTc4Identification h m s
  | .meTc5SurfacePosition h m => Sys2Proof.Machine.execMeTc5SurfacePosition h m s
  | .meTc6SurfacePosition h m => Sys2Proof.Machine.execMeTc6SurfacePosition h m s
  | .meTc7SurfacePosition h m => Sys2Proof.Machine.execMeTc7SurfacePosition h m s
  | .meTc8SurfacePosition h m => Sys2Proof.Machine.execMeTc8SurfacePosition h m s
  | .meTc9AirbornePositionBaro h m => Sys2Proof.Machine.execMeTc9AirbornePositionBaro h m s
  | .meTc10AirbornePositionBaro h m => Sys2Proof.Machine.execMeTc10AirbornePositionBaro h m s
  | .meTc11AirbornePositionBaro h m => Sys2Proof.Machine.execMeTc11AirbornePositionBaro h m s
  | .meTc12AirbornePositionBaro h m => Sys2Proof.Machine.execMeTc12AirbornePositionBaro h m s
  | .meTc13AirbornePositionBaro h m => Sys2Proof.Machine.execMeTc13AirbornePositionBaro h m s
  | .meTc14AirbornePositionBaro h m => Sys2Proof.Machine.execMeTc14AirbornePositionBaro h m s
  | .meTc15AirbornePositionBaro h m => Sys2Proof.Machine.execMeTc15AirbornePositionBaro h m s
  | .meTc16AirbornePositionBaro h m => Sys2Proof.Machine.execMeTc16AirbornePositionBaro h m s
  | .meTc17AirbornePositionBaro h m => Sys2Proof.Machine.execMeTc17AirbornePositionBaro h m s
  | .meTc18AirbornePositionBaro h m => Sys2Proof.Machine.execMeTc18AirbornePositionBaro h m s
  | .meTc19St0Reserved h m => Sys2Proof.Machine.execMeTc19St0Reserved h m s
  | .meTc19St1VelocityGround h m => Sys2Proof.Machine.execMeTc19St1VelocityGround h m s
  | .meTc19St2VelocityGround h m => Sys2Proof.Machine.execMeTc19St2VelocityGround h m s
  | .meTc19St3VelocityAirspeed h m => Sys2Proof.Machine.execMeTc19St3VelocityAirspeed h m s
  | .meTc19St4VelocityAirspeed h m => Sys2Proof.Machine.execMeTc19St4VelocityAirspeed h m s
  | .meTc19St5Reserved h m => Sys2Proof.Machine.execMeTc19St5Reserved h m s
  | .meTc19St6Reserved h m => Sys2Proof.Machine.execMeTc19St6Reserved h m s
  | .meTc19St7Reserved h m => Sys2Proof.Machine.execMeTc19St7Reserved h m s
  | .meTc20AirbornePositionGnss h m => Sys2Proof.Machine.execMeTc20AirbornePositionGnss h m s
  | .meTc21AirbornePositionGnss h m => Sys2Proof.Machine.execMeTc21AirbornePositionGnss h m s
  | .meTc22AirbornePositionGnss h m => Sys2Proof.Machine.execMeTc22AirbornePositionGnss h m s
  | .meTc23Other h m => Sys2Proof.Machine.execMeTc23Other h m s
  | .meTc24Other h m => Sys2Proof.Machine.execMeTc24Other h m s
  | .meTc25Other h m => Sys2Proof.Machine.execMeTc25Other h m s
  | .meTc26Other h m => Sys2Proof.Machine.execMeTc26Other h m s
  | .meTc27Other h m => Sys2Proof.Machine.execMeTc27Other h m s
  | .meTc28Other h m => Sys2Proof.Machine.execMeTc28Other h m s
  | .meTc29Other h m => Sys2Proof.Machine.execMeTc29Other h m s
  | .meTc30Other h m => Sys2Proof.Machine.execMeTc30Other h m s
  | .meTc31Other h m => Sys2Proof.Machine.execMeTc31Other h m s

end Sys2Proof.Machine
end

