-- ==== Sys2Proof/Machine/Slicer.lean ====
section
/-! DEFINITION. The PreambleDetector's tests and phase correction (41_preamble R180 to R183, R188) and the BitSlicer
(42_bitslicer R200 to R205). A magnitude window is a function from the offset behind J to the magnitude; the window
register file W is a list of 240 entries. -/

namespace Sys2Proof.Machine

/-! ### The preamble test -/

/-- PULSES_OK (41_preamble R180): the ten inequalities, in the order of their table. -/
def pulsesOk (m : Nat → Nat) : Bool :=
  decide (m 1 < m 0) && decide (m 1 < m 2) && decide (m 3 < m 2) && decide (m 3 < m 0) && decide (m 4 < m 0) &&
    decide (m 5 < m 0) && decide (m 6 < m 0) && decide (m 8 < m 7) && decide (m 8 < m 9) && decide (m 6 < m 9)

/-- T of 41_preamble R181, with the divisor as an argument. -/
def quietLimit (divisor : Nat) (m : Nat → Nat) : Nat := (m 0 + m 2 + m 7 + m 9) / divisor

/-- QUIET_OK (41_preamble R181): the six quiet samples are strictly below T. -/
def quietOk (divisor : Nat) (m : Nat → Nat) : Bool :=
  [4, 5, 11, 12, 13, 14].all (fun x => decide (m x < quietLimit divisor m))

/-- PREAMBLE_OK (41_preamble R182). -/
def preambleOk (divisor : Nat) (m : Nat → Nat) : Bool := pulsesOk m && quietOk divisor m

/-- OUT_OF_PHASE (41_preamble R183): `before` is m[−1], none where J = 0. -/
def outOfPhase (before : Option Nat) (m : Nat → Nat) : Bool :=
  match before with
  | none => false
  | some b => decide (m 2 / 3 < m 3) || decide (m 9 / 3 < m 10) || decide (m 7 / 3 < m 6) || decide (m 1 / 3 < b)

/-! ### The window and its phase correction -/

/-- n entries of W from a list of magnitudes; past its end a magnitude is 0 (log 3). -/
def windowFrom : List (BitVec 16) → Nat → List (BitVec 17)
  | _, 0 => []
  | [], n + 1 => 0#17 :: windowFrom [] n
  | x :: xs, n + 1 => x.setWidth 17 :: windowFrom xs n

/-- An entry scaled by 5/4 after a 1 and by 4/5 after a 0 (41_preamble R188). No entry a window can hold wraps. -/
def scaleEntry (one : Bool) (x : BitVec 17) : BitVec 17 :=
  BitVec.ofNat 17 (if one then x.toNat * 5 / 4 else x.toNat * 4 / 5)

/-- PHASE_CORRECT over bit pairs (41_preamble R188): (a, b) is the current pair, already corrected; the bit it decides
scales one sample of the next pair. -/
def phasePairs (target : Config.PhaseTarget) (a b : BitVec 17) : List (BitVec 17) → List (BitVec 17)
  | c :: d :: rest =>
    match target with
    | .high => a :: b :: phasePairs target c (scaleEntry (decide (b < a)) d) rest
    | .low => a :: b :: phasePairs target (scaleEntry (decide (b < a)) c) d rest
  | rest => a :: b :: rest

/-- PHASE_CORRECT on the data samples W[16..] (41_preamble R188). -/
def phaseData (target : Config.PhaseTarget) : List (BitVec 17) → List (BitVec 17)
  | a :: b :: rest => phasePairs target a b rest
  | short => short

/-- PHASE_CORRECT(W) (41_preamble R188). -/
def phaseCorrect (target : Config.PhaseTarget) (w : List (BitVec 17)) : List (BitVec 17) :=
  w.take 16 ++ phaseData target (w.drop 16)

/-! ### Slicing -/

/-- abs(low − high). -/
def sampleGap (lo hi : BitVec 17) : Nat := ((lo.toNat : Int) - (hi.toNat : Int)).natAbs

/-- A bit decided on its own pair, without the debounce (42_bitslicer R201). -/
def freshBit (lo hi : BitVec 17) : SliceBit := if lo = hi then .err else if hi < lo then .one else .zero

/-- One bit (42_bitslicer R201), with whether it is an error sample made here rather than copied; `prev` is the bit before
it, none for bit 0. -/
def sliceBit (prev : Option SliceBit) (lo hi : BitVec 17) : SliceBit × Bool :=
  match prev with
  | some p => if sampleGap lo hi < 256 then (p, false) else (freshBit lo hi, decide (lo = hi))
  | none => (freshBit lo hi, decide (lo = hi))

/-- The bits of successive pairs (42_bitslicer R200, R201). -/
def sliceFrom (prev : Option SliceBit) : List (BitVec 17) → List (SliceBit × Bool)
  | lo :: hi :: rest => sliceBit prev lo hi :: sliceFrom (some (sliceBit prev lo hi).1) rest
  | _ => []

/-- The sliced window: one entry for each of the 112 pairs of W[16..239] (42_bitslicer R200). -/
def sliceWindow (w : List (BitVec 17)) : List (SliceBit × Bool) := sliceFrom none (w.drop 16)

/-- ERRCNT (42_bitslicer R201): the error samples made in bits 0 to 55. -/
def errorCount (bs : List (SliceBit × Bool)) : Nat := (bs.take 56).countP (fun b => b.2)

/-- LIMIT of the error budget (42_bitslicer R203). -/
def errorLimit (aggressive : Bool) : Nat := if aggressive then Config.AGGR_MAX_ERRBITS else 0

/-- FR (42_bitslicer R202): a bit is set iff it was sliced to 1; the first bit is frame bit 0. -/
def packBits (bs : List SliceBit) : BitVec 112 :=
  BitVec.ofNat 112 (bs.foldl (fun acc b => 2 * acc + (if b = .one then 1 else 0)) 0)

/-- nbits by DF (42_bitslicer R204, 30_encoding R120). -/
def frameLen (longFrom : Nat) (df : BitVec 5) : FrameLen := if longFrom ≤ df.toNat then .long else .short

/-- nbits as a number (10_state R36). -/
def FrameLen.nbits : FrameLen → Nat
  | .short => 56
  | .long => 112

/-- SUMD (42_bitslicer R205) over the first n pairs. -/
def sumGaps : Nat → List (BitVec 17) → Nat
  | n + 1, lo :: hi :: rest => sampleGap lo hi + sumGaps n rest
  | _, _ => 0

/-- SUMD div nbits < ENERGY_MIN (42_bitslicer R205): too little energy. -/
def tooWeak (energyMin : Nat) (len : FrameLen) (w : List (BitVec 17)) : Bool :=
  decide (sumGaps len.nbits (w.drop 16) / len.nbits < energyMin)

end Sys2Proof.Machine
end

