-- ==== Sys2Proof/Machine/Fetch.lean ====
section
/-! DEFINITION. What the next transition runs. The schedule (log 1) says whose turn it is. A turn of the host fetches the
command it issues; a turn of the pipeline is the scan step of 41_preamble R186 up to the checksum stage, where the sliced
frame is the instruction it fetches. -/

namespace Sys2Proof.Machine

/-- What a turn gives: a transition that is complete, or an instruction to execute on the state it left. -/
inductive Fetched where
  | done (s : State)
  | run (i : Instr) (s : State)
  deriving DecidableEq, Repr

/-- `cancel` (41_preamble R187): J, ACC and the tables keep their values. -/
def State.cancelRun (s : State) : State :=
  { s with
    status := { s.status with cancelReq := false, cancelled := true, busy := false }
    scan := { s.scan with pst := .scanning } }

/-- m[x] = M[J + x]. -/
def State.magBehind (s : State) (x : Nat) : Nat := (s.magAt (s.scan.j.toNat + x)).toNat

/-- m[−1], which exists only where J > 0 (41_preamble R183). -/
def State.magBefore (s : State) : Option Nat :=
  if s.scan.j = 0#32 then none else some (s.magAt (s.scan.j.toNat - 1)).toNat

/-- W[i] <- M[J + i] for i in 0..239 (10_state R34, 41_preamble R186). -/
def State.loadWindow (s : State) : State :=
  { s with dp := { s.dp with win := windowFrom (s.mag.drop s.scan.j.toNat) 240 } }

/-- A Correcting step corrects the window unless the out-of-phase gate is on and closed (41_preamble R186). -/
def State.correctWindow (s : State) : State :=
  if Config.PHASE_GATE = false ∨ outOfPhase s.magBefore s.magBehind = true then
    { s with dp := { s.dp with win := phaseCorrect Config.PHASE_TARGET s.dp.win } }
  else s

/-- Stage 1 of ATTEMPT: BITS and ERRCNT (42_bitslicer R201). -/
def State.sliceStage (s : State) : State :=
  { s with
    dp := { s.dp with
      bits := (sliceWindow s.dp.win).map Prod.fst
      errCnt := BitVec.ofNat 7 (errorCount (sliceWindow s.dp.win)) } }

/-- Stages 3 and 4 of ATTEMPT: FR and NBITS (42_bitslicer R202, R204). -/
def State.packStage (s : State) : State :=
  { s with
    dp := { s.dp with
      fr := packBits s.dp.bits
      nbits := frameLen Config.LONG_DF_MIN (icao (packBits s.dp.bits) 1 5) } }

/-- Stages 1 to 5 of ATTEMPT (41_preamble R184) on the window register file: a rejected attempt completes the step, and
otherwise the sliced frame is the instruction to run. -/
def State.attempt (s : State) : Fetched :=
  let s1 := s.sliceStage
  if errorLimit s1.regs.aggr < s1.dp.errCnt.toNat then .done (s1.reject .rejErrBits)
  else
    let s2 := s1.packStage
    if tooWeak Config.ENERGY_MIN s2.dp.nbits s2.dp.win then .done (s2.reject .rejEnergy)
    else .run (decodeReceived s2.dp.fr) s2

/-- PST <- CandidateFound and CNT_PREAMBLE += 1 (41_preamble R186). -/
def State.candidateFound (s : State) : State := (s.moveTo s.scan.j .candidateFound).count .preamble

/-- The scan step while STATUS.BUSY = 1 (41_preamble R186). -/
def State.scanStep (s : State) : Fetched :=
  if s.status.cancelReq then .done s.cancelRun
  else if s.scan.pst = .scanning then
    if preambleOk Config.QUIET_DIVISOR s.magBehind then s.candidateFound.loadWindow.attempt
    else .done (s.moveTo (s.scan.j + 1) s.scan.pst).finish
  else (s.loadWindow.count .phaseRetry).correctWindow.attempt

/-- A turn of the pipeline: it has no step while BUSY = 0 (10_state R30, 60_exceptions R404). -/
def State.pipelineTurn (s : State) : Fetched := if s.status.busy then s.scanStep else .done s

/-- The next transition (log 1): the first turn of the schedule; an empty schedule gives every turn to the pipeline. -/
def State.fetch (s : State) : Fetched :=
  match s.schedule with
  | .command w a b :: rest => .run (decodeCommand w a b) { s with schedule := rest }
  | .pipeline :: rest => { s with schedule := rest }.pipelineTurn
  | [] => s.pipelineTurn

end Sys2Proof.Machine
end

