-- ==== Sys2Proof/Machine/Load.lean ====
section
/-! DEFINITION. How an instruction is put where the next step fetches it: a command at the head of the schedule, a frame
as the magnitudes of an ideal signal in M, ready to be scanned (log 16). The signal is that of 95_test_vectors section 6:
H = (255, 127) and L = (127, 127). -/

namespace Sys2Proof.Machine

/-- The magnitude of a pulse, MAG(255, 127) (40_magnitude R172). -/
def pulseMag : BitVec 16 := 46080#16

/-- The magnitudes of the preamble: pulses at samples 0, 2, 7 and 9 of 16 (41_preamble R180). -/
def preambleMags : List (BitVec 16) :=
  (List.range 16).map (fun k => if k ∈ [0, 2, 7, 9] then pulseMag else 0#16)

/-- The magnitudes of n data bits of a frame, from frame bit k on: a 1 has its pulse in the first half and a 0 in the
second (42_bitslicer R200). -/
def dataMags (f : BitVec 112) : Nat → Nat → List (BitVec 16)
  | 0, _ => []
  | n + 1, k =>
    (if f.getMsbD k then [pulseMag, 0#16] else [0#16, pulseMag]) ++ dataMags f n (k + 1)

/-- The 240 magnitudes of a frame of 112 bits. -/
def signalMags (f : BitVec 112) : List (BitVec 16) := preambleMags ++ dataMags f 112 0

/-- s with the signal of a frame as a buffer of 240 samples whose scan is about to test offset 0, the pipeline's turn
being next. -/
def State.withFrame (s : State) (f : BitVec 112) : State :=
  { s.writeMags (signalMags f) with
    scan := { s.scan with j := 0#32, pst := .scanning, n := 240#32 }
    status := { s.status with busy := true, cancelReq := false }
    schedule := .pipeline :: s.schedule }

/-- The frame that a lone byte of the table stands for: byte 0 of a frame of zeros, or byte 4 of a DF17 frame (log 15). -/
def frameOfByte (w : BitVec 8) : BitVec 112 :=
  if meRowIsMoreSpecific w then squitterOfByte w else (w ++ 0#104 : BitVec (8 + 104))

/-- s with the instruction of a table word stored where the next step fetches it (log 16). -/
def State.withTableWord (s : State) (nbits w : Nat) : State :=
  match nbits with
  | 32 => { s with schedule := .command (BitVec.ofNat 32 w) 0#64 0#64 :: s.schedule }
  | 8 => s.withFrame (frameOfByte (BitVec.ofNat 8 w))
  | 56 => s.withFrame (frameOfBytes w 14 0)
  | 112 => s.withFrame (frameOfBytes w 14 0)
  | _ => s

end Sys2Proof.Machine
end

