-- ==== Sys2Proof/Machine/Step.lean ====
section
/-! DEFINITION. One atomic transition of MSD1 (10_state R30, 20_memory R88, R90): a host command or a pipeline step. It has
three outcomes: a next state, a fault (an unwritten sample byte) or a refusal (none today). -/

namespace Sys2Proof.Machine

/-- The next transition. -/
def step (s : State) : Host.Outcome State Fault Refusal :=
  match s.fetch with
  | .done t => .next t
  | .run i t => exec i t

/-- s with the instruction of a table word stored where `step` fetches its next instruction (log 16). -/
def State.withFetchWord (s : State) (nbits w : Nat) : State := s.withTableWord nbits w

end Sys2Proof.Machine
end

