-- ==== Sys2Proof/Safety.lean ====
section
/-! DEFINITION. What counts as a safe state and a right effect, in the terms the claims use. The effects name every part of
the state: what changes, and that nothing else does. -/

namespace Sys2Proof.Machine

/-! ### Effects of a decode attempt -/

/-- The message record of an acceptance at state s (10_state R51, 44_decoder R251, 41_preamble R186). -/
def acceptedRecord (s : State) (df : BitVec 5) (cap : BitVec 3) (addr : U24) (fix : BitFix) (f : Frame) (p : Payload) :
    Message where
  df := df
  capability := cap
  icao := addr
  crcOk := true
  correctedBit := fix
  frame := f
  offset := s.scan.j
  phaseCorrected := decide (s.scan.pst = .correcting)
  timestamp := s.scan.now
  payload := p

/-- The record of a DF17 message with head h (43_checksum R227, R229). -/
def squitterRecord (s : State) (h : SquitterHead) (f : BitVec 112) (p : Payload) : Message :=
  acceptedRecord s 17 h.ca h.aa h.fix (.long f) p

/-- Counter c after an effect that adds k to it. -/
def CountedBy (s t : State) (c : Cnt) (k : Nat) : Prop :=
  Counters.value t.counters c = Counters.value s.counters c + BitVec.ofNat 32 k

/-- The counters that an acceptance and the track update after it never touch (10_state R46). -/
def attemptCounters : List Cnt :=
  [.preamble, .phaseRetry, .rejErrBits, .rejEnergy, .dfUnsupported, .crcGood, .fix1, .fix2, .crcBad, .apOk, .apUnknown,
    .trackRemoved]

/-- The counters of CPR_UPDATE (10_state R46). -/
def cprCounters : List Cnt :=
  [.cprGlobal, .cprLocal, .cprRelative, .cprZone, .cprBadLat, .cprFar, .cprRejRange, .cprRejSpeed]

/-! ### The track table -/

/-- SCALAR_UPDATE (46_tracker R332, R333): a present field overwrites the track's, an absent one leaves it. -/
def scalarsUpdated (a : Track) (p : Payload) (now : U64) : Track :=
  { a with
    lastSeen := now
    messageCount := a.messageCount + 1
    altitudeFt := if p.altitudeFt.isSome then p.altitudeFt else a.altitudeFt
    squawk := if p.squawk.isSome then p.squawk else a.squawk
    flightStatus := if p.flightStatus.isSome then p.flightStatus else a.flightStatus
    flight := if p.flight.isSome then p.flight else a.flight
    category := if p.category.isSome then p.category else a.category
    gsKt := if p.gsKt.isSome then p.gsKt else a.gsKt
    trackDeg := if p.trackDeg.isSome then p.trackDeg else a.trackDeg
    headingDeg := if p.headingDeg.isSome then p.headingDeg else a.headingDeg
    airspeedKt := if p.airspeedKt.isSome then p.airspeedKt else a.airspeedKt
    airspeedType := if p.airspeedType.isSome then p.airspeedType else a.airspeedType
    vertRateFpm := if p.vertRateFpm.isSome then p.vertRateFpm else a.vertRateFpm }

/-- A track right after its creation (46_tracker R331); pos_time is the model's choice while pos is none (log 7). -/
def createdTrack (a : U24) (now : U64) : Track :=
  ⟨a, now, 0, none, 0, .global, none, none, none, none, none, none, none, none, none, none, none, none, none, none⟩

/-- The track and the counters of SCALAR_UPDATE and CPR_UPDATE by a record with CPR latitude lat (46_tracker R331, R334).
A record that has cpr_lat has cpr_lon, cpr_format and surface too (44_decoder R265, R267, R269). -/
def positionUpdate (s : State) (a : Track) (p : Payload) (lat : BitVec 17) : Track × List Cnt :=
  cprUpdate ⟨s.regs.ctrl.getLsbD 2, ⟨s.regs.homeLat, s.regs.homeLon⟩, s.regs.maxRangeM.toNat, s.scan.now⟩
    (scalarsUpdated a p s.scan.now) lat (p.cprLon.getD 0) (p.cprFormat == some 1) (p.surface == some true)

/-- The counters that the position update of an accepted message increments: none without a position or without a slot. -/
def positionCounts (s : State) (m : Message) : List Cnt :=
  match m.payload.cprLat, findTrack s.tracks m.icao, freeSlot s.tracks with
  | some lat, some (_, a), _ => (positionUpdate s a m.payload lat).2
  | some lat, none, some _ => (positionUpdate s (createdTrack m.icao s.scan.now) m.payload lat).2
  | _, _, _ => []

/-! ### Acceptance and rejection -/

/-- t is s after `accept(m)` (41_preamble R186): the record is pushed or counted as an overflow, the track is updated, J
passes the whole message, and everything else stands. (That the datapath stands is log 3's choice.) -/
structure AcceptEffect (s t : State) (m : Message) : Prop where
  registers : t.regs = s.regs
  sampleBytes : ∀ a, t.readSample a = s.readSample a
  magnitudes : t.mag = s.mag
  datapath : t.dp = s.dp
  cache : t.cache = s.cache
  response : t.rsp = s.rsp
  schedule : t.schedule = s.schedule
  otherStatus : t.status.cancelReq = s.status.cancelReq ∧ t.status.cancelled = s.status.cancelled ∧
    t.status.lastErr = s.status.lastErr
  context : t.scan.n = s.scan.n ∧ t.scan.now = s.scan.now
  counted : t.scan.acc = s.scan.acc + 1
  advanced : t.scan.j = s.scan.j + BitVec.ofNat 32 (16 + 2 * m.frame.nbits)
  scanning : t.scan.pst = .scanning
  running : t.status.busy = (s.status.busy && decide (t.scan.j.toNat + 240 ≤ s.scan.n.toNat))
  pushed : t.fifo = if s.fifo.length < 64 then s.fifo ++ [m] else s.fifo
  tracked : t.tracks = (s.trackUpdate m).tracks
  accepted : CountedBy s t .accepted 1
  phaseGood : CountedBy s t .phaseGood (if s.scan.pst = .correcting then 1 else 0)
  overflow : CountedBy s t .fifoOverflow (if s.fifo.length < 64 then 0 else 1)
  trackFull : CountedBy s t .trackFull
    (if findTrack s.tracks m.icao = none ∧ freeSlot s.tracks = none then 1 else 0)
  otherCounters : ∀ c ∈ attemptCounters, CountedBy s t c 0
  noPosition : m.payload.cprLat = none → ∀ c ∈ cprCounters, CountedBy s t c 0
  positionCounted : ∀ c ∈ cprCounters, CountedBy s t c ((positionCounts s m).count c)

/-- t is s after `reject` with the reason counted in c (00_scope R14, 41_preamble R186, 60_exceptions R398): the counter,
then a retry at the same offset or the next offset, and everything else stands. (That the datapath stands is log 3's
choice.) -/
structure RejectEffect (s t : State) (c : Cnt) : Prop where
  registers : t.regs = s.regs
  sampleBytes : ∀ a, t.readSample a = s.readSample a
  magnitudes : t.mag = s.mag
  datapath : t.dp = s.dp
  cache : t.cache = s.cache
  tracks : t.tracks = s.tracks
  fifo : t.fifo = s.fifo
  response : t.rsp = s.rsp
  schedule : t.schedule = s.schedule
  otherStatus : t.status.cancelReq = s.status.cancelReq ∧ t.status.cancelled = s.status.cancelled ∧
    t.status.lastErr = s.status.lastErr
  context : t.scan.n = s.scan.n ∧ t.scan.now = s.scan.now ∧ t.scan.acc = s.scan.acc
  counter : ∀ d, CountedBy s t d (if d = c then 1 else 0)
  retry : s.scan.pst = .candidateFound → s.regs.ctrl.getLsbD 1 = true →
    t.scan.j = s.scan.j ∧
      t.scan.pst = (if s.scan.j.toNat + 240 ≤ s.scan.n.toNat then .correcting else .scanning)
  advance : ¬(s.scan.pst = .candidateFound ∧ s.regs.ctrl.getLsbD 1 = true) →
    t.scan.j = s.scan.j + 1 ∧ t.scan.pst = .scanning
  running : t.status.busy = (s.status.busy && decide (t.scan.j.toNat + 240 ≤ s.scan.n.toNat))

/-! ### Effects of a command -/

/-- s after a command that raised an error (47_commands R360): LAST_ERR and the response, and nothing else. -/
def failed (s : State) (e : Status) (code : BitVec 8) : State :=
  { s with status := { s.status with lastErr := code }, rsp := ⟨e, 0, none⟩ }

/-- s after a command that only answers. -/
def answered (s : State) (e : Status) (r : U64) (rec : Option RspRecord) : State := { s with rsp := ⟨e, r, rec⟩ }

/-- A value a writable register accepts (10_state R41 to R44). A binary64 value is finite and within a bound exactly when
its bit pattern without the sign is not above the pattern of the bound: 0x4056800000000000 is 90, 0x4066800000000000 is
180. -/
def LegalRegValue (sel : BitVec 8) (a : U64) : Prop :=
  (sel = 1 ∧ a.toNat < 8) ∨
  (sel = 2 ∧ (a &&& 0x7FFFFFFFFFFFFFFF#64).toNat ≤ 0x4056800000000000) ∨
  (sel = 3 ∧ (a &&& 0x7FFFFFFFFFFFFFFF#64).toNat ≤ 0x4066800000000000) ∨
  (sel = 4 ∧ a.toNat < 2 ^ 32) ∨
  (sel = 5 ∧ 0 < a.toNat ∧ a.toNat < 2 ^ 32)

/-- A counter as a register reads it, zero-extended (10_state R46). -/
def counterRead (s : State) (c : Cnt) : U64 := BitVec.ofNat 64 (Counters.value s.counters c).toNat

/-- The register map as it reads, by selector (10_state R40, R45, R46), each counter by its name. -/
def registerAt (s : State) (n : Nat) : Option U64 :=
  match n with
  | 0x00 => some 0x00004D5344310001
  | 0x01 => some s.regs.ctrl
  | 0x02 => some s.regs.homeLat
  | 0x03 => some s.regs.homeLon
  | 0x04 => some s.regs.maxRangeM
  | 0x05 => some s.regs.trackTtlMs
  | 0x06 => some (BitVec.ofNat 64 (s.status.busy.toNat + 2 * s.status.cancelReq.toNat + 4 * s.status.cancelled.toNat +
      256 * s.status.lastErr.toNat))
  | 0x07 => some s.regs.lastTime
  | 0x08 => some (BitVec.ofNat 64 s.scan.acc.toNat)
  | 0x09 => some (BitVec.ofNat 64 s.scan.j.toNat)
  | 0x0A => some (BitVec.ofNat 64 s.fifo.length)
  | 0x0B => some (BitVec.ofNat 64 s.tracks.length)
  | 0x20 => some (counterRead s .preamble)
  | 0x21 => some (counterRead s .phaseRetry)
  | 0x22 => some (counterRead s .rejErrBits)
  | 0x23 => some (counterRead s .rejEnergy)
  | 0x24 => some (counterRead s .dfUnsupported)
  | 0x25 => some (counterRead s .crcGood)
  | 0x26 => some (counterRead s .fix1)
  | 0x27 => some (counterRead s .fix2)
  | 0x28 => some (counterRead s .crcBad)
  | 0x29 => some (counterRead s .apOk)
  | 0x2A => some (counterRead s .apUnknown)
  | 0x2B => some (counterRead s .accepted)
  | 0x2C => some (counterRead s .phaseGood)
  | 0x2D => some (counterRead s .fifoOverflow)
  | 0x2E => some (counterRead s .trackFull)
  | 0x2F => some (counterRead s .cprGlobal)
  | 0x30 => some (counterRead s .cprLocal)
  | 0x31 => some (counterRead s .cprRelative)
  | 0x32 => some (counterRead s .cprZone)
  | 0x33 => some (counterRead s .cprBadLat)
  | 0x34 => some (counterRead s .cprFar)
  | 0x35 => some (counterRead s .cprRejRange)
  | 0x36 => some (counterRead s .cprRejSpeed)
  | 0x37 => some (counterRead s .trackRemoved)
  | _ => none

/-- A track is Stale at time t (46_tracker R330). -/
def StaleAt (s : State) (t : U64) (a : Track) : Prop := a.lastSeen.toNat + s.regs.trackTtlMs.toNat < t.toNat

/-- The snapshot of a slot (46_tracker R340): its state is taken at LAST_TIME. -/
def snapshotAt (s : State) (i : Nat) (a : Track) : Snapshot :=
  ⟨i, a, if a.lastSeen.toNat + s.regs.trackTtlMs.toNat < s.regs.lastTime.toNat then .stale else .tracked⟩

/-- The instruction is a host command. -/
def isCommand (i : Instr) : Prop := ∃ w a b, encode i = .command w a b

/-! ### The scan step -/

/-- s with W loaded from M at J (10_state R34). -/
def windowAt (s : State) : List (BitVec 17) := windowFrom (s.mag.drop s.scan.j.toNat) 240

/-- FR of a sliced window (42_bitslicer R202). -/
def frameOfWindow (w : List (BitVec 17)) : BitVec 112 := packBits ((sliceWindow w).map Prod.fst)

/-- The datapath after stages 1 to 4 of ATTEMPT on a window (41_preamble R184). -/
def slicedDatapath (w : List (BitVec 17)) : Datapath where
  win := w
  bits := (sliceWindow w).map Prod.fst
  errCnt := BitVec.ofNat 7 (errorCount (sliceWindow w))
  fr := frameOfWindow w
  nbits := frameLen 16 (icao (frameOfWindow w) 1 5)

/-- An attempt on the window passes the error budget and the energy check (42_bitslicer R203, R205). -/
def windowPasses (aggressive : Bool) (w : List (BitVec 17)) : Prop :=
  errorCount (sliceWindow w) ≤ (if aggressive then 2 else 0) ∧
    tooWeak 1275 (frameLen 16 (icao (frameOfWindow w) 1 5)) w = false

/-- The next turn is the pipeline's (log 1): the schedule says so, or is empty. Its step takes the head of the schedule
off. -/
def PipelinesTurn (s : State) : Prop := s.schedule = [] ∨ ∃ rest, s.schedule = .pipeline :: rest

/-- The pipeline takes the next step: it is its turn, BUSY = 1 and no cancellation is pending (41_preamble R186). -/
structure ScansNext (s : State) : Prop where
  turn : PipelinesTurn s
  busy : s.status.busy = true
  notCancelled : s.status.cancelReq = false

/-! ### The parity table -/

/-- x^e modulo the parity generator x^24 + x^23 + … + x^12 + x^10 + x^3 + 1 over GF(2), as a number (43_checksum R221): the
last power doubled, and reduced when it reaches degree 24. -/
def crcPower : Nat → Nat
  | 0 => 1
  | e + 1 => if 2 * crcPower e < 2 ^ 24 then 2 * crcPower e else (2 * crcPower e) ^^^ 0x1FFF409

/-! ### The resolver, as 45_cpr writes it -/

/-- DLAT and DLON: 360 degrees, or 90 on the surface, over a number of zones (45_cpr R290, R292). -/
def zoneWidth (surface : Bool) (zones : Nat) : F64 := F64.div (F64.ofNat (if surface then 90 else 360)) (F64.ofNat zones)

/-- The fraction of a raw CPR value (45_cpr R290). -/
def cprFraction (raw : BitVec 17) : F64 := F64.div (F64.ofNat raw.toNat) (F64.ofNat 131072)

/-- N(lat, odd) (45_cpr R292). -/
def lonZones (lat : F64) (odd : Bool) : Nat := max (nl lat - (if odd then 1 else 0)) 1

/-- The longitude in [−180, 180) (45_cpr R296, R297). -/
def lonWrapped (r : F64) : F64 :=
  F64.sub r (F64.ofInt (F64.floor (F64.div (F64.add r (F64.ofNat 180)) (F64.ofNat 360)) * 360))

/-- LOCAL (45_cpr R297). -/
def localAsWritten (ref : Position) (cl co : BitVec 17) (odd surface : Bool) : CprResult :=
  let dlat := zoneWidth surface (if odd then 59 else 60)
  let j := F64.floor (F64.div ref.lat dlat) +
    F64.floor (F64.sub (F64.add half (F64.div (F64.fmodp ref.lat dlat) dlat)) (cprFraction cl))
  let r := F64.mul dlat (F64.add (F64.ofInt j) (cprFraction cl))
  let rlat := if F64.le (F64.ofNat 270) r = true then F64.sub r (F64.ofNat 360) else r
  if F64.lt rlat (F64.ofInt (-90)) = true ∨ F64.lt (F64.ofNat 90) rlat = true then .badLat
  else if F64.lt (F64.div dlat (F64.ofNat 2)) (F64.abs (F64.sub rlat ref.lat)) = true then .far
  else
    let dlon := zoneWidth surface (lonZones rlat odd)
    let m := F64.floor (F64.div ref.lon dlon) +
      F64.floor (F64.sub (F64.add half (F64.div (F64.fmodp ref.lon dlon) dlon)) (cprFraction co))
    let rlon := F64.mul dlon (F64.add (F64.ofInt m) (cprFraction co))
    if F64.lt (F64.div dlon (F64.ofNat 2)) (F64.abs (F64.sub rlon ref.lon)) = true then .far
    else .ok ⟨rlat, lonWrapped rlon⟩

/-- The candidate latitude of the global decode: the fold from 270 on (45_cpr R293), or SURFLAT (R294). -/
def candidateLat (surface : Bool) (rl r : F64) : F64 :=
  if surface = false then (if F64.le (F64.ofNat 270) r = true then F64.sub r (F64.ofNat 360) else r)
  else if F64.eq r 0#64 = true then
    (if F64.lt rl (F64.ofInt (-45)) = true then F64.ofInt (-90) else if F64.lt (F64.ofNat 45) rl = true then F64.ofNat 90 else r)
  else if F64.lt (F64.ofNat 45) (F64.sub r rl) = true then F64.sub r (F64.ofNat 90)
  else r

/-- GLOBAL of the even sample (el, eo) and the odd sample (ol, oo) (45_cpr R293 to R296). -/
def globalAsWritten (el eo ol oo : BitVec 17) (odd surface : Bool) (ref : Position) : CprResult :=
  let j := F64.floor
    (F64.add (F64.div (F64.ofInt (59 * (el.toNat : Int) - 60 * (ol.toNat : Int))) (F64.ofNat 131072)) half)
  let r0 := candidateLat surface ref.lat
    (F64.mul (zoneWidth surface 60) (F64.add (F64.ofInt (j % 60)) (cprFraction el)))
  let r1 := candidateLat surface ref.lat
    (F64.mul (zoneWidth surface 59) (F64.add (F64.ofInt (j % 59)) (cprFraction ol)))
  if ∃ r ∈ [r0, r1], F64.lt r (F64.ofInt (-90)) = true ∨ F64.lt (F64.ofNat 90) r = true then .badLat
  else if nl r0 ≠ nl r1 then .zone
  else
    let rlat := if odd then r1 else r0
    let m := F64.floor (F64.add
      (F64.div (F64.ofInt ((eo.toNat : Int) * ((nl rlat : Int) - 1) - (oo.toNat : Int) * (nl rlat : Int)))
        (F64.ofNat 131072)) half)
    let r := F64.mul (zoneWidth surface (lonZones rlat odd))
      (F64.add (F64.ofInt (m % (lonZones rlat odd : Int))) (cprFraction (if odd then oo else eo)))
    let rlon :=
      if surface then
        F64.add r (F64.ofInt
          (F64.floor (F64.div (F64.add (F64.sub ref.lon r) (F64.ofNat 45)) (F64.ofNat 90)) * 90))
      else r
    .ok ⟨rlat, lonWrapped rlon⟩

/-- The track's own fix is recent enough to be a local reference (45_cpr R299, 1). -/
def OwnFix (env : CprEnv) (a : Track) (ref : Position) : Prop :=
  a.pos = some ref ∧ env.now.toNat ≤ a.posTime.toNat + 600000

/-- (ref, src) is the local reference (45_cpr R299). -/
def LocalReference (env : CprEnv) (a : Track) (surface : Bool) (ref : Position) (src : PosSource) : Prop :=
  (OwnFix env a ref ∧ src = .localFix) ∨
  ((∀ p, ¬OwnFix env a p) ∧ env.homeValid = true ∧ 0 < env.maxRangeM ∧
    env.maxRangeM ≤ (if surface then 83340 else 333360) ∧ ref = env.home ∧ src = .relative)

/-- ref is a reference for the global decode: any position in the air, the track's own or else home on the surface
(45_cpr R300). -/
def GlobalReference (env : CprEnv) (a : Track) (surface : Bool) (ref : Position) : Prop :=
  surface = false ∨ a.pos = some ref ∨ (a.pos = none ∧ env.homeValid = true ∧ ref = env.home)

/-- q is the stored sample of the other parity, and it may be paired with the current one (45_cpr R301). -/
def Paired (env : CprEnv) (a : Track) (odd surface : Bool) (q : CprSample) : Prop :=
  (if odd then a.cprEven else a.cprOdd) = some q ∧ q.surface = surface ∧
    env.now.toNat ≤ q.timestamp.toNat + (if surface then 50000 else 10000)

/-- GLOBAL of the current sample (lat, lon) and the stored one q of the other parity (45_cpr R306, 5). -/
def pairAsWritten (lat lon : BitVec 17) (q : CprSample) (odd surface : Bool) (ref : Position) : CprResult :=
  if odd then globalAsWritten q.rawLat q.rawLon lat lon odd surface ref
  else globalAsWritten lat lon q.rawLat q.rawLon odd surface ref

/-- rad(x) (45_cpr R302). -/
def radians (x : F64) : F64 := F64.div (F64.mul x 0x400921FB54442D18#64) (F64.ofNat 180)

/-- GC(p, q) in metres (45_cpr R302); sin, cos and asin are free (log 8). -/
def metresBetween (p q : Position) : F64 :=
  let sinHalf (x y : F64) : F64 := Config.SIN (F64.div (F64.sub (radians y) (radians x)) (F64.ofNat 2))
  let h := F64.add (F64.mul (sinHalf p.lat q.lat) (sinHalf p.lat q.lat))
    (F64.mul (F64.mul (Config.COS (radians p.lat)) (Config.COS (radians q.lat)))
      (F64.mul (sinHalf p.lon q.lon) (sinHalf p.lon q.lon)))
  F64.mul (F64.mul (F64.ofNat 2) (F64.ofNat 6371000)) (Config.ASIN (F64.min (F64.ofNat 1) (F64.sqrt h)))

/-- The home-distance check rejects a position (45_cpr R304). -/
def RangeFails (env : CprEnv) (p : Position) : Prop :=
  env.homeValid = true ∧ 0 < env.maxRangeM ∧ F64.lt (F64.ofNat env.maxRangeM) (metresBetween env.home p) = true

/-- The distance the speed-sanity check allows since the last fix (45_cpr R305). -/
def allowedTravel (env : CprEnv) (a : Track) (surface : Bool) : F64 :=
  let known := a.gsKt.getD ((a.airspeedKt.map F64.ofNat).getD (F64.ofNat (if surface then 100 else 600)))
  let scaled := F64.div (F64.mul known (F64.ofNat 4)) (F64.ofNat 3)
  let v := if surface then F64.min (F64.max scaled (F64.ofNat 20)) (F64.ofNat 150) else F64.max scaled (F64.ofNat 200)
  F64.add (F64.ofNat (if surface then 100 else 500))
    (F64.mul (F64.div (F64.ofInt ((env.now.toNat : Int) - (a.posTime.toNat : Int) + 1000)) (F64.ofNat 1000))
      (F64.div (F64.mul v (F64.ofNat 1852)) (F64.ofNat 3600)))

/-- The speed-sanity check rejects a position (45_cpr R305). -/
def SpeedFails (env : CprEnv) (a : Track) (p : Position) (surface : Bool) : Prop :=
  ∃ old, a.pos = some old ∧ F64.lt (allowedTravel env a surface) (metresBetween old p) = true

/-- Both checks pass (45_cpr R303). -/
def Plausible (env : CprEnv) (a : Track) (p : Position) (surface : Bool) : Prop :=
  ¬RangeFails env p ∧ ¬SpeedFails env a p surface

/-- A decode that gives no position for the track, with the counter that says why (45_cpr R303, R306). -/
def Refused (env : CprEnv) (a : Track) (surface : Bool) : CprResult → Cnt → Prop
  | .badLat, c => c = .cprBadLat
  | .far, c => c = .cprFar
  | .zone, c => c = .cprZone
  | .ok p, c =>
    (RangeFails env p ∧ c = .cprRejRange) ∨ (¬RangeFails env p ∧ SpeedFails env a p surface ∧ c = .cprRejSpeed)

/-- The local decode gives no position: there is no reference, or its result is refused; with the counters of the try
(45_cpr R299, R306, 2). -/
def LocalFails (env : CprEnv) (a : Track) (lat lon : BitVec 17) (odd surface : Bool) (tried : List Cnt) : Prop :=
  (tried = [] ∧ ∀ ref src, ¬LocalReference env a surface ref src) ∨
  ∃ ref src c, tried = [c] ∧ LocalReference env a surface ref src ∧
    Refused env a surface (localAsWritten ref lat lon odd surface) c

/-- The position of a track stands (45_cpr R306). -/
def PositionKept (a u : Track) : Prop := u.pos = a.pos ∧ u.posTime = a.posTime ∧ u.posSource = a.posSource

/-- ACCEPT (45_cpr R306) with the final range check of R307, after the counters of the tries before it. -/
def PositionAccepted (env : CprEnv) (a u : Track) (tried cs : List Cnt) (p : Position) (src : PosSource) : Prop :=
  (p.inRange = true →
    u.pos = some p ∧ u.posTime = env.now ∧ u.posSource = src ∧
      cs = tried ++ [match src with | .global => .cprGlobal | .localFix => .cprLocal | .relative => .cprRelative]) ∧
  (p.inRange = false → PositionKept a u ∧ cs = tried ++ [.cprBadLat])

/-! ### Invariants -/

/-- The memories are in canonical form (20_memory R80, R81, 10_state R48): no byte outside the address space, every cache
entry in the slot of its hash and not the empty entry, no magnitude past the end or above the largest. -/
structure MemoriesOk (s : State) : Prop where
  ram : Memory.wf s.ram
  cacheOrder : Sparse.wf s.cache
  cacheSlots : ∀ e ∈ s.cache, e.1 = cacheHash e.2.address ∧ e.2 ≠ ⟨0, 0⟩
  magFits : s.mag.length ≤ 131311
  magTrimmed : s.mag.getLast? ≠ some 0
  magRange : ∀ x ∈ s.mag, x.toNat ≤ 65167

/-- The scan registers are as a run leaves them between steps (10_state R31, R32, 41_preamble R185): a running scan has its
whole window inside the buffer, an idle one is Scanning, and only a running one can have a cancellation pending. -/
structure ScanOk (s : State) : Prop where
  window : s.status.busy = true → s.scan.j.toNat + 240 ≤ s.scan.n.toNat
  idle : s.status.busy = false → s.scan.pst = .scanning ∧ s.status.cancelReq = false
  notVisible : s.scan.pst ≠ .candidateFound
  bufferFits : s.scan.n.toNat ≤ 131311

/-- The track table (46_tracker R331, 45_cpr R307): slots in order and in range, one slot per address, and no position
outside the world. -/
structure TracksOk (s : State) : Prop where
  order : Sparse.wf s.tracks
  slots : ∀ e ∈ s.tracks, e.1 < 1024
  unique : s.tracks.Pairwise (fun x y => x.2.icao ≠ y.2.icao)
  positions : ∀ e ∈ s.tracks, ∀ p, e.2.pos = some p → p.inRange = true

/-- No time of a track or of a record is ahead of NOW, nor NOW of LAST_TIME (45_cpr R301, 60_exceptions R401). -/
structure TimesOk (s : State) : Prop where
  now : s.scan.now.toNat ≤ s.regs.lastTime.toNat
  seen : ∀ e ∈ s.tracks, e.2.lastSeen.toNat ≤ s.scan.now.toNat
  even : ∀ e ∈ s.tracks, ∀ c, e.2.cprEven = some c → c.timestamp.toNat ≤ s.scan.now.toNat
  odd : ∀ e ∈ s.tracks, ∀ c, e.2.cprOdd = some c → c.timestamp.toNat ≤ s.scan.now.toNat
  position : ∀ e ∈ s.tracks, e.2.pos ≠ none → e.2.posTime.toNat ≤ s.scan.now.toNat
  records : ∀ m ∈ s.fifo, m.timestamp.toNat ≤ s.scan.now.toNat

/-- The flipped bits of a correction lie in a frame of n bits, two in ascending order (43_checksum R224, R225). -/
def FixWithin (n : Nat) (fix : BitFix) : Prop :=
  (∀ p, fix = .single p → p.toNat < n) ∧ ∀ p q, fix = .double p q → p.toNat < q.toNat ∧ q.toNat < n

/-- The message FIFO (10_state R38, R51, 43_checksum R225, R226): at most 64 records, each verified, corrected bits in the
record's own frame, of 56 or 112 bits, and in order, corrections only of DF11 and DF17 and double ones only of DF17. -/
structure FifoOk (s : State) : Prop where
  depth : s.fifo.length ≤ 64
  verified : ∀ m ∈ s.fifo, m.crcOk = true
  inFrame : ∀ m ∈ s.fifo, FixWithin (match m.frame with | .short _ => 56 | .long _ => 112) m.correctedBit
  corrected : ∀ m ∈ s.fifo, m.correctedBit ≠ .none → m.df = 11 ∨ m.df = 17
  double : ∀ m ∈ s.fifo, ∀ p q, m.correctedBit = .double p q → m.df = 17

/-- The configuration registers hold legal values (10_state R41 to R44). -/
structure RegsOk (s : State) : Prop where
  ctrl : s.regs.ctrl.toNat < 8
  homeLat : (s.regs.homeLat &&& 0x7FFFFFFFFFFFFFFF#64).toNat ≤ 0x4056800000000000
  homeLon : (s.regs.homeLon &&& 0x7FFFFFFFFFFFFFFF#64).toNat ≤ 0x4066800000000000
  maxRange : s.regs.maxRangeM.toNat < 2 ^ 32
  ttl : 0 < s.regs.trackTtlMs.toNat ∧ s.regs.trackTtlMs.toNat < 2 ^ 32

end Sys2Proof.Machine
end

