-- ==== Sys2Proof/Certificates/Slice0/Obligations.lean ====
section
/-! DEFINITION. The statements for the provers, each with the rule of spec/ it comes from. -/

open Sys2Proof Sys2Proof.Machine

/-! ### Encodings -/

/-- 30_encoding R114, R125, R127, R129 and 95_test_vectors section 1: some words and the instructions they stand for. -/
def Obligations.SampleWordsDecode : Prop :=
  decode (.command 0x00000102 3 0) = .ok (.regWrite 1 3) ∧
  decode (.command 0x00000006 2180 1000) = .ok (.process 2180 1000) ∧
  decode (.command 0x0000000D 0x4840D6 60999) = .ok (.cacheQuery 0x4840D6 60999) ∧
  decode (.command 0x0000000E 0 0) = .ok (.reservedCmd 0x0000000E) ∧
  decode (.short 0x28000A800349D8) = .ok (.df5SurvId ⟨0, 0, 0, 0x0A80, 0x0349D8⟩) ∧
  decode (.short 0x5D4840D6F8740F) = .ok (.df11AllCall ⟨5, 0x4840D6, 0xF8740F⟩) ∧
  decode (.long 0x8D4840D6202CC371C32CE0576098) =
    .ok (.df17ExtSquitter ⟨5, 0x4840D6, 0x202CC371C32CE0, 0x576098⟩) ∧
  decode (.squitter .none 0x8D4840D6202CC371C32CE0576098) =
    .ok (.meTc4Identification ⟨17, 5, 0x4840D6, 0x576098, .none⟩ ⟨0, 0x2CC371C32CE0⟩)

/-- 30_encoding R110 to R134: decoding the encoding of a well-formed instruction gives the instruction back. -/
def Obligations.EncodeThenDecode : Prop := ∀ i : Instr, i.wf = true → decode (encode i) = .ok i

/-- 30_encoding R110 to R134: no bit of a received frame, of a verified DF17 frame or of a command word is lost. An operand
that the command takes (R111) is kept as well; one that it does not take, and both of a reserved word, are encoded as 0. -/
def Obligations.DecodeThenEncode : Prop :=
  (∀ f : BitVec 56, f.msb = false → ∃ i, decode (.short f) = .ok i ∧ i.wf = true ∧ encode i = .short f) ∧
  (∀ f : BitVec 112, f.msb = true → ∃ i, decode (.long f) = .ok i ∧ i.wf = true ∧ encode i = .long f) ∧
  (∀ fix f i, decode (.squitter fix f) = .ok i → i.wf = true ∧ encode i = .squitter fix f) ∧
  (∀ w a b, ∃ i a' b', decode (.command w a b) = .ok i ∧ i.wf = true ∧ encode i = .command w a' b' ∧
    ((i = .reservedCmd w ∧ a' = 0 ∧ b' = 0) ∨
      ((∀ u, i ≠ .reservedCmd u) ∧
        a' = (if w.toNat % 256 ∈ [0x02, 0x04, 0x05, 0x06, 0x0A, 0x0B, 0x0C, 0x0D] then a else 0) ∧
        b' = (if w.toNat % 256 ∈ [0x04, 0x06, 0x08, 0x0C, 0x0D] then b else 0))))

/-- 30_encoding R113: the reserved and illegal command words are exactly those that become RESERVED_CMD, and each raises
ERR_ILLEGAL_CMD with no other effect. -/
def Obligations.ReservedCommandsAreIllegal : Prop :=
  (∀ (w : U32) (a b : U64),
    decodeCommand w a b = .reservedCmd w ↔
      (13 < w.toNat % 256 ∨ w.toNat / 65536 ≠ 0 ∨
        (w.toNat / 256 % 256 ≠ 0 ∧ w.toNat % 256 ≠ 2 ∧ w.toNat % 256 ≠ 3))) ∧
  (∀ (w : U32) (s : State), exec (.reservedCmd w) s = .next (failed s .errIllegalCmd 0x10))

/-! ### Steps -/

/-- 20_memory R88, R90: a step that is the host's turn runs the command its words decode to. -/
def Obligations.StepRunsTheCommand : Prop :=
  ∀ (s : State) (w : U32) (a b : U64) (rest : List Turn) (i : Instr),
    s.schedule = .command w a b :: rest → decode (.command w a b) = .ok i →
      step s = exec i { s with schedule := rest }

/-- 41_preamble R184, R186, 42_bitslicer R200 to R202: a scan step whose preamble and window pass runs the sliced frame as
an instruction; a Correcting step does so on the phase-corrected window. What the window, the bits and the packed frame
hold. (That the step takes a turn off the schedule is the model's choice, log 1; that the frame runs as an instruction,
log 14.) -/
def Obligations.StepRunsTheSlicedFrame : Prop :=
  (∀ s : State, ScansNext s → s.scan.pst = .scanning → preambleOk 4 s.magBehind = true →
    windowPasses (s.regs.ctrl.getLsbD 0) (windowAt s) →
      step s = exec (decodeReceived (frameOfWindow (windowAt s)))
        { s with
          schedule := s.schedule.tail
          scan := { s.scan with pst := .candidateFound }
          counters := Counters.addTo s.counters .preamble 1
          dp := slicedDatapath (windowAt s) }) ∧
  (∀ s : State, ScansNext s → s.scan.pst = .correcting →
    windowPasses (s.regs.ctrl.getLsbD 0) (phaseCorrect .high (windowAt s)) →
      step s = exec (decodeReceived (frameOfWindow (phaseCorrect .high (windowAt s))))
        { s with
          schedule := s.schedule.tail
          counters := Counters.addTo s.counters .phaseRetry 1
          dp := slicedDatapath (phaseCorrect .high (windowAt s)) }) ∧
  (∀ s : State, (windowAt s).length = 240 ∧
    ∀ i, i < 240 → (windowAt s)[i]? = some ((s.magAt (s.scan.j.toNat + i)).setWidth 17)) ∧
  ∀ (w : List (BitVec 17)) (bs : List SliceBit), w.length = 240 → bs = (sliceWindow w).map Prod.fst →
    bs.length = 112 ∧
    ∀ k, k < 112 →
      (∀ lo hi : BitVec 17, w[16 + 2 * k]? = some lo → w[17 + 2 * k]? = some hi →
        (0 < k → ((lo.toNat : Int) - hi.toNat).natAbs < 256 → bs[k]? = bs[k - 1]?) ∧
        ((k = 0 ∨ 256 ≤ ((lo.toNat : Int) - hi.toNat).natAbs) →
          bs[k]? = some (if lo = hi then .err else if hi < lo then .one else .zero))) ∧
      (packBits bs).getMsbD k = decide (bs[k]? = some .one)

/-- 60_exceptions R404, 41_preamble R180 to R182, R185, R186: an idle machine does not change; an offset that fails the
preamble test is skipped, and the run ends where no window fits at the next one; the preamble test is the ten inequalities
and the six quiet samples. (That the step takes a turn off the schedule, and that an idle step is a next state, is the
model's choice, log 1.) -/
def Obligations.IdleAndSkippedOffsets : Prop :=
  (∀ s : State, PipelinesTurn s → s.status.busy = false → step s = .next { s with schedule := s.schedule.tail }) ∧
  (∀ s : State, ScansNext s → s.scan.pst = .scanning → preambleOk 4 s.magBehind = false →
    step s = .next
      { s with
        schedule := s.schedule.tail
        scan := { s.scan with j := s.scan.j + 1 }
        status := { s.status with busy := decide ((s.scan.j + 1).toNat + 240 ≤ s.scan.n.toNat) } }) ∧
  (∀ (s : State) (m : Nat → Nat), (∀ x, m x = (s.magAt (s.scan.j.toNat + x)).toNat) →
    (preambleOk 4 s.magBehind = true ↔
      (m 0 > m 1 ∧ m 1 < m 2 ∧ m 2 > m 3 ∧ m 3 < m 0 ∧ m 4 < m 0 ∧ m 5 < m 0 ∧ m 6 < m 0 ∧ m 7 > m 8 ∧ m 8 < m 9 ∧
        m 9 > m 6) ∧
      ∀ x ∈ [4, 5, 11, 12, 13, 14], m x < (m 0 + m 2 + m 7 + m 9) / 4))

/-- 41_preamble R187: the four effects of a cancellation; J, ACC and all tables keep their values. (That the step takes
a turn off the schedule is the model's choice, log 1.) (That W, BITS, ERRCNT, FR and NBITS stand is the model's choice,
log 3.) -/
def Obligations.CancellationEndsTheRun : Prop :=
  ∀ s : State, PipelinesTurn s → s.status.busy = true → s.status.cancelReq = true →
    step s = .next
      { s with
        schedule := s.schedule.tail
        status := ⟨false, false, true, s.status.lastErr⟩
        scan := { s.scan with pst := .scanning } }

/-- 42_bitslicer R201, R203 to R206: a window over the error budget is rejected as ErrBits before it is packed, and one
within it that has too little energy as Energy; what the error count, the length and the energy check are. (That the
step takes a turn off the schedule is the model's choice, log 1.) (That W, BITS, ERRCNT, FR and NBITS stand after the
attempt is the model's choice, log 3.) -/
def Obligations.NoisyWindowsAreRejected : Prop :=
  (∀ (s : State) (w : List (BitVec 17)) (c : Cnt) (p : ScanState), ScansNext s →
    (s.scan.pst = .scanning ∧ preambleOk 4 s.magBehind = true ∧ w = windowAt s ∧ c = .preamble ∧ p = .candidateFound ∨
      s.scan.pst = .correcting ∧ w = phaseCorrect .high (windowAt s) ∧ c = .phaseRetry ∧ p = .correcting) →
    ((if s.regs.ctrl.getLsbD 0 then 2 else 0) < errorCount (sliceWindow w) →
      ∃ t, step s = .next t ∧
        RejectEffect
          { s with
            schedule := s.schedule.tail
            scan := { s.scan with pst := p }
            counters := Counters.addTo s.counters c 1
            dp := { slicedDatapath w with fr := s.dp.fr, nbits := s.dp.nbits } } t .rejErrBits) ∧
    (errorCount (sliceWindow w) ≤ (if s.regs.ctrl.getLsbD 0 then 2 else 0) →
      tooWeak 1275 (frameLen 16 (icao (frameOfWindow w) 1 5)) w = true →
      ∃ t, step s = .next t ∧
        RejectEffect
          { s with
            schedule := s.schedule.tail
            scan := { s.scan with pst := p }
            counters := Counters.addTo s.counters c 1
            dp := slicedDatapath w } t .rejEnergy)) ∧
  ∀ (w : List (BitVec 17)) (gap : Nat → Nat), w.length = 240 →
    (∀ k, gap k = (((w.getD (16 + 2 * k) 0).toNat : Int) - (w.getD (17 + 2 * k) 0).toNat).natAbs) →
    errorCount (sliceWindow w) = ((List.range 56).filter (fun k => (k = 0 ∨ 256 ≤ gap k) ∧ gap k = 0)).length ∧
    (∀ df : BitVec 5, frameLen 16 df = if df.toNat < 16 then .short else .long) ∧
    (tooWeak 1275 .short w = true ↔ ((List.range 56).map gap).sum / 56 < 1275) ∧
    (tooWeak 1275 .long w = true ↔ ((List.range 112).map gap).sum / 112 < 1275)

/-! ### Commands -/

/-- 47_commands R361: NOP has no effect, status OK, R = 0. -/
def Obligations.NopOnlyAnswers : Prop := ∀ s : State, exec .nop s = .next (answered s .ok 0 none)

/-- 47_commands R374, 70_reset R421: RESET is accepted in every state and sets every register, table and FIFO to its reset
value; sample RAM keeps its bytes and their marks. (That the schedule stays is the model's choice, log 1: it is outside
the machine.) -/
def Obligations.ResetSetsResetValues : Prop :=
  ∀ s : State, ∃ t, exec .reset s = .next t ∧
    t.regs = ⟨2, 0, 0, 0, 60000, 0⟩ ∧ t.status = ⟨false, false, false, 0⟩ ∧ t.scan = ⟨0, .scanning, 0, 0, 0⟩ ∧
    (∀ c, Counters.value t.counters c = 0) ∧ (∀ h, cacheSlot t.cache h = ⟨0, 0⟩) ∧
    (∀ i, Sparse.lookup t.tracks i = none) ∧ t.fifo = [] ∧ t.rsp = ⟨.ok, 0, none⟩ ∧ t.schedule = s.schedule ∧
    ∀ a, t.readSample a = s.readSample a

/-- 47_commands R362, 10_state R39 to R44: REG_WRITE while idle. -/
def Obligations.RegWriteFollowsItsRule : Prop :=
  ∀ (sel : BitVec 8) (a : U64) (s : State), s.status.busy = false →
    ((sel = 0 ∨ 5 < sel.toNat) → exec (.regWrite sel a) s = .next (failed s .errBadReg 0x12)) ∧
    (sel ≠ 0 → sel.toNat ≤ 5 → ¬LegalRegValue sel a →
      exec (.regWrite sel a) s = .next (failed s .errBadValue 0x13)) ∧
    (LegalRegValue sel a →
      exec (.regWrite sel a) s = .next
        { s with
          regs :=
            ⟨if sel = 1 then a else s.regs.ctrl, if sel = 2 then a else s.regs.homeLat,
              if sel = 3 then a else s.regs.homeLon, if sel = 4 then a else s.regs.maxRangeM,
              if sel = 5 then a else s.regs.trackTtlMs, s.regs.lastTime⟩
          rsp := ⟨.ok, 0, none⟩ })

/-- 47_commands R363, 10_state R40, R45, R46: REG_READ answers the register a selector names, each counter by its name,
whatever BUSY is, and changes nothing else; and an increment adds 1 to its own counter modulo 2^32 and leaves all else. -/
def Obligations.RegReadAnswersTheRegister : Prop :=
  (∀ (sel : BitVec 8) (s : State),
    exec (.regRead sel) s = .next
      (match registerAt s sel.toNat with
        | some v => answered s .ok v none
        | none => failed s .errBadReg 0x12)) ∧
  (∀ (s : State) (c : Cnt), s.count c = { s with counters := Counters.addTo s.counters c 1 }) ∧
  ∀ (cs : Counters) (c d : Cnt) (k : Nat),
    (Counters.value (Counters.addTo cs c k) d).toNat =
      if d = c then ((Counters.value cs d).toNat + k) % 2 ^ 32 else (Counters.value cs d).toNat

/-- 47_commands R364: SAMPLE_WRITE while idle; every byte but the one stored to reads as before. -/
def Obligations.SampleWriteStoresOneByte : Prop :=
  ∀ (a b : U64) (s : State), s.status.busy = false →
    (262622 ≤ a.toNat → exec (.sampleWrite a b) s = .next (failed s .errAddr 0x14)) ∧
    (a.toNat < 262622 → 256 ≤ b.toNat → exec (.sampleWrite a b) s = .next (failed s .errBadValue 0x13)) ∧
    (a.toNat < 262622 → b.toNat < 256 →
      ∃ t, exec (.sampleWrite a b) s = .next t ∧ t = { answered s .ok 0 none with ram := t.ram } ∧
        t.readSample a.toNat = some (BitVec.ofNat 8 b.toNat) ∧
        ∀ x, x ≠ a.toNat → t.readSample x = s.readSample x)

/-- 47_commands R365, 70_reset R423: SAMPLE_READ answers a written byte, and stops on one never written. -/
def Obligations.SampleReadAnswersTheByte : Prop :=
  ∀ (a : U64) (s : State),
    (262622 ≤ a.toNat → exec (.sampleRead a) s = .next (failed s .errAddr 0x14)) ∧
    (a.toNat < 262622 →
      (∀ v, s.readSample a.toNat = some v →
        exec (.sampleRead a) s = .next (answered s .ok (BitVec.ofNat 64 v.toNat) none)) ∧
      (s.readSample a.toNat = none → exec (.sampleRead a) s = .fault (.unwrittenSample a.toNat)))

/-- 47_commands R366: what a PROCESS whose checks pass writes. (That the datapath stays is the model's choice, log 3: 93 U4
leaves it open until an attempt writes it.) -/
def Obligations.ProcessStartsARun : Prop :=
  ∀ (a b : U64) (s : State), s.status.busy = false → a.toNat % 2 = 0 → a.toNat ≤ 262622 →
    s.regs.lastTime.toNat ≤ b.toNat → (∀ k, k < a.toNat → s.readSample k ≠ none) →
    ∃ t, exec (.process a b) s = .next t ∧
      t.regs = { s.regs with lastTime := b } ∧
      t.scan = ⟨0, .scanning, BitVec.ofNat 32 (a.toNat / 2), b, 0⟩ ∧
      t.status = ⟨decide (240 ≤ a.toNat / 2), false, false, s.status.lastErr⟩ ∧
      (∀ k x y, k < a.toNat / 2 → s.readSample (2 * k) = some x → s.readSample (2 * k + 1) = some y →
        t.magAt k = magOf x y) ∧
      (∀ k, a.toNat / 2 ≤ k → t.magAt k = s.magAt k) ∧
      t.counters = s.counters ∧ t.cache = s.cache ∧ t.tracks = s.tracks ∧ t.fifo = s.fifo ∧ t.dp = s.dp ∧
      t.rsp = ⟨.ok, 0, none⟩ ∧ t.schedule = s.schedule ∧ ∀ x, t.readSample x = s.readSample x

/-- 47_commands R366, R360, 70_reset R423: PROCESS's checks in their order; past them an unwritten byte of the buffer
stops it. -/
def Obligations.ProcessRefusesInOrder : Prop :=
  ∀ (a b : U64) (s : State), s.status.busy = false →
    (a.toNat % 2 = 1 → exec (.process a b) s = .next (failed s .errOddLength 0x15)) ∧
    (a.toNat % 2 = 0 → 262622 < a.toNat → exec (.process a b) s = .next (failed s .errAddr 0x14)) ∧
    (a.toNat % 2 = 0 → a.toNat ≤ 262622 → b.toNat < s.regs.lastTime.toNat →
      exec (.process a b) s = .next (failed s .errTimeRegress 0x16)) ∧
    (a.toNat % 2 = 0 → a.toNat ≤ 262622 → s.regs.lastTime.toNat ≤ b.toNat →
      (∃ k, k < a.toNat ∧ s.readSample k = none) →
      ∃ k, k < a.toNat ∧ s.readSample k = none ∧ exec (.process a b) s = .fault (.unwrittenSample k))

/-- 47_commands R367: CANCEL requests cancellation of a run, and has no effect while idle; status OK in both cases. A
second CANCEL changes nothing, and the next pipeline step, at the head of the schedule or with nothing in it (log 1), ends
the run. -/
def Obligations.CancelRequestsCancellation : Prop :=
  ∀ s : State,
    (s.status.busy = true →
      exec .cancel s = .next { answered s .ok 0 none with status := { s.status with cancelReq := true } }) ∧
    (s.status.busy = false → exec .cancel s = .next (answered s .ok 0 none)) ∧
    ∀ t, exec .cancel s = .next t → exec .cancel t = .next t ∧
      (PipelinesTurn s → s.status.busy = true →
        ∃ u, step t = .next u ∧ u.status.busy = false ∧ u.status.cancelled = true)

/-- 47_commands R368, 46_tracker R339: SWEEP while idle removes exactly the stale tracks and answers how many. -/
def Obligations.SweepRemovesStaleTracks : Prop :=
  ∀ (b : U64) (s : State), s.status.busy = false →
    (b.toNat < s.regs.lastTime.toNat → exec (.sweep b) s = .next (failed s .errTimeRegress 0x16)) ∧
    (s.regs.lastTime.toNat ≤ b.toNat → Sparse.wf s.tracks →
      ∃ (t : State) (n : Nat), exec (.sweep b) s = .next t ∧ t.tracks.length + n = s.tracks.length ∧
        t.rsp = ⟨.ok, BitVec.ofNat 64 n, none⟩ ∧ t.regs = { s.regs with lastTime := b } ∧
        (∀ i a, Sparse.lookup t.tracks i = some a ↔ Sparse.lookup s.tracks i = some a ∧ ¬StaleAt s b a) ∧
        (∀ c, CountedBy s t c (if c = .trackRemoved then n else 0)) ∧
        t.status = s.status ∧ t.scan = s.scan ∧ t.dp = s.dp ∧ t.cache = s.cache ∧ t.fifo = s.fifo ∧ t.mag = s.mag ∧
        t.schedule = s.schedule ∧ ∀ x, t.readSample x = s.readSample x)

/-- 47_commands R369: MSG_POP removes and answers the oldest record, or answers NONE; busy or not. -/
def Obligations.MsgPopTakesTheOldest : Prop :=
  ∀ s : State,
    (s.fifo = [] → exec .msgPop s = .next (answered s .none 0 none)) ∧
    (∀ m rest, s.fifo = m :: rest →
      exec .msgPop s = .next { answered s .ok 0 (some (.message m)) with fifo := rest })

/-- 47_commands R370, R371, 46_tracker R330, R340: TRACK_READ and TRACK_SLOT answer a snapshot, or NONE, and change
nothing. The table has at most one slot per address. -/
def Obligations.TrackReadsAnswerSnapshots : Prop :=
  ∀ (a : U64) (s : State), TracksOk s →
    (2 ^ 24 ≤ a.toNat → exec (.trackRead a) s = .next (failed s .errBadValue 0x13)) ∧
    (∀ i tr, (i, tr) ∈ s.tracks → tr.icao.toNat = a.toNat →
      exec (.trackRead a) s = .next (answered s .ok 0 (some (.track (snapshotAt s i tr))))) ∧
    (a.toNat < 2 ^ 24 → (∀ e ∈ s.tracks, e.2.icao.toNat ≠ a.toNat) →
      exec (.trackRead a) s = .next (answered s .none 0 none)) ∧
    (1024 ≤ a.toNat → exec (.trackSlot a) s = .next (failed s .errAddr 0x14)) ∧
    (∀ tr, (a.toNat, tr) ∈ s.tracks →
      exec (.trackSlot a) s = .next (answered s .ok 0 (some (.track (snapshotAt s a.toNat tr))))) ∧
    (a.toNat < 1024 → (∀ e ∈ s.tracks, e.1 ≠ a.toNat) →
      exec (.trackSlot a) s = .next (answered s .none 0 none))

/-- 47_commands R372, 43_checksum R231, R233: CACHE_INSERT while idle writes the one slot of the address's hash; HASH in
arithmetic modulo 2^32 and the 1024 slots; and CACHE_INSERT_INT, which the pipeline uses too. -/
def Obligations.CacheInsertWritesItsSlot : Prop :=
  (∀ (a : U32) (mix : Nat → Nat) (a1 a2 : Nat), (∀ x, mix x = x / 2 ^ 16 ^^^ x) →
    a1 = mix a.toNat * 0x045D9F3B % 2 ^ 32 → a2 = mix a1 * 0x045D9F3B % 2 ^ 32 → cacheHash a = mix a2 % 1024) ∧
  (∀ (a : U32) (b : U64) (s : State), s.cacheInsert a b = { s with cache := (s.cacheInsert a b).cache } ∧
    ∀ h, cacheSlot (s.cacheInsert a b).cache h = if h = cacheHash a then ⟨a, b⟩ else cacheSlot s.cache h) ∧
  ∀ (a b : U64) (s : State), s.status.busy = false →
    (2 ^ 24 ≤ a.toNat → exec (.cacheInsert a b) s = .next (failed s .errBadValue 0x13)) ∧
    (a.toNat < 2 ^ 24 →
      ∃ t, exec (.cacheInsert a b) s = .next t ∧ t = { answered s .ok 0 none with cache := t.cache } ∧
        (∀ h, cacheSlot t.cache h =
          if h = cacheHash (BitVec.ofNat 32 a.toNat) then ⟨BitVec.ofNat 32 a.toNat, b⟩ else cacheSlot s.cache h) ∧
        (∀ x, t.readSample x = s.readSample x) ∧
        ∀ q : U64, exec (.cacheQuery a q) t = .next
          (answered t .ok (if a ≠ 0 ∧ b.toNat ≤ q.toNat ∧ q.toNat ≤ b.toNat + 60000 then 1 else 0) none))

/-- 47_commands R373, 43_checksum R232: CACHE_QUERY answers whether the address is found at a time, and changes nothing;
and CACHE_FOUND, which the pipeline uses too. -/
def Obligations.CacheQueryAnswersFound : Prop :=
  (∀ (a : U32) (b : U64) (s : State) (e : CacheEntry), e = cacheSlot s.cache (cacheHash a) →
    (s.cacheFound a b = true ↔
      a ≠ 0 ∧ e.address = a ∧ e.lastSeen.toNat ≤ b.toNat ∧ b.toNat - e.lastSeen.toNat ≤ 60000)) ∧
  ∀ (a b : U64) (s : State),
    (2 ^ 24 ≤ a.toNat → exec (.cacheQuery a b) s = .next (failed s .errBadValue 0x13)) ∧
    (a.toNat < 2 ^ 24 → ∀ e, e = cacheSlot s.cache (cacheHash (BitVec.ofNat 32 a.toNat)) →
      exec (.cacheQuery a b) s = .next
        (answered s .ok
          (if a ≠ 0 ∧ e.address.toNat = a.toNat ∧ e.lastSeen.toNat ≤ b.toNat ∧
              b.toNat - e.lastSeen.toNat ≤ 60000 then 1 else 0)
          none))

/-- 47_commands R375: which commands are refused while BUSY = 1, and which are accepted. -/
def Obligations.BusyRule : Prop :=
  ∀ s : State, s.status.busy = true →
    (∀ sel a, exec (.regWrite sel a) s = .next (failed s .errBusy 0x11)) ∧
    (∀ a b, exec (.sampleWrite a b) s = .next (failed s .errBusy 0x11)) ∧
    (∀ a b, exec (.process a b) s = .next (failed s .errBusy 0x11)) ∧
    (∀ b, exec (.sweep b) s = .next (failed s .errBusy 0x11)) ∧
    (∀ a b, exec (.cacheInsert a b) s = .next (failed s .errBusy 0x11)) ∧
    (∀ i t, isCommand i → exec i s = .next t → t.rsp.status = .errBusy →
      (∃ sel a, i = .regWrite sel a) ∨ (∃ a b, i = .sampleWrite a b) ∨ (∃ a b, i = .process a b) ∨
        (∃ b, i = .sweep b) ∨ ∃ a b, i = .cacheInsert a b)

/-- 47_commands R360, 60_exceptions R391, R397: a command that fails has no effect but LAST_ERR and its answer; one that
succeeds leaves LAST_ERR, but for RESET. -/
def Obligations.FailedCommandsChangeNothingElse : Prop :=
  ∀ (i : Instr) (s t : State), isCommand i → exec i s = .next t →
    (t.rsp.status ≠ .ok → t.rsp.status ≠ .none → t = failed s t.rsp.status t.rsp.status.code) ∧
    ((t.rsp.status = .ok ∨ t.rsp.status = .none) → i ≠ .reset → t.status.lastErr = s.status.lastErr)

/-! ### Checksum, correction and address recovery -/

/-- 43_checksum R234: a frame sealed with its checksum verifies, and one sealed with its checksum and an address recovers
the address. R220: the checksum is the exclusive or of the table entries of the set bits, 56 entries on for a 56-bit frame,
the transmitted field is the last 24 bits, and the recovered address is their exclusive or (R226). R221: the parity table
is x^(111 - k) modulo the generator, with 24 zeros at its end. 00_scope R12: the fields of a frame, and its bits as a
correction flips them (R224). -/
def Obligations.SealedFramesVerify : Prop :=
  (∀ p : BitVec 88, ∀ f : BitVec 112, f = p ++ checksum (p ++ 0#24 : BitVec 112) → checksum f = txField f) ∧
  (∀ p : BitVec 32, ∀ f : BitVec 56, f = p ++ checksum (p ++ 0#24 : BitVec 56) → checksum f = txField f) ∧
  (∀ (p : BitVec 88) (a : U24), ∀ f : BitVec 112, f = p ++ (checksum (p ++ 0#24 : BitVec 112) ^^^ a) → syndrome f = a) ∧
  (∀ (p : BitVec 32) (a : U24), ∀ f : BitVec 56, f = p ++ (checksum (p ++ 0#24 : BitVec 56) ^^^ a) → syndrome f = a) ∧
  (∀ f : BitVec 112, checksum f =
    ((List.range 112).filter (fun k => f.getMsbD k)).foldl (fun c k => c ^^^ crcTab.getD k 0) 0) ∧
  (∀ f : BitVec 56, checksum f =
    ((List.range 56).filter (fun k => f.getMsbD k)).foldl (fun c k => c ^^^ crcTab.getD (k + 56) 0) 0) ∧
  (∀ (n : Nat) (f : BitVec n), (txField f).toNat = f.toNat % 2 ^ 24 ∧ syndrome f = checksum f ^^^ txField f) ∧
  (∀ (n : Nat) (f : BitVec n) (a w : Nat), 1 ≤ a → a + w ≤ n + 1 →
    (icao f a w).toNat = f.toNat / 2 ^ (n + 1 - a - w) % 2 ^ w) ∧
  (∀ (n : Nat) (f : BitVec n) (p k : Nat), p < n →
    (flipBit f p).getMsbD k = if k = p then !f.getMsbD k else f.getMsbD k) ∧
  crcTab.length = 112 ∧
  ∀ k, k < 112 → crcTab[k]? = some (if k < 88 then BitVec.ofNat 24 (crcPower (111 - k)) else 0)

/-- 43_checksum R224: the syndrome lookup of the model gives what FIX1's search over all positions gives. -/
def Obligations.Fix1IsTheSearch : Prop :=
  (∀ f : BitVec 112, fix1 f = fix1Search f 112 0) ∧ (∀ f : BitVec 56, fix1 f = fix1Search f 56 0)

/-- 43_checksum R225: the syndrome lookup of the model gives what FIX2's search over all pairs gives. -/
def Obligations.Fix2IsTheSearch : Prop := ∀ f : BitVec 112, fix2 f = fix2Search f 112 0

/-! ### Downlink formats -/

/-- 43_checksum R226, 44_decoder R254 to R256, R258 to R261: an address-parity reply whose recovered address is in the
cache is accepted, with the payload of its format. The acceptance and the record are those of 41_preamble R186,
10_state R51 and 44_decoder R250, R251. (That W, BITS, ERRCNT, FR and NBITS stand after the attempt is the model's
choice, log 3.) -/
def Obligations.ApRepliesAreAccepted : Prop :=
  (∀ (f : AirAirShort) (s : State) (fr : BitVec 56), fr = shortFrame 0 f.bits →
    s.cacheFound ((syndrome fr).setWidth 32) s.scan.now = true →
    ∃ t, exec (.df0ShortAirAir f) s = .next t ∧ AcceptEffect (s.count .apOk) t
      (acceptedRecord s 0 (f.vs ++ (f.cc ++ f.spare8)) (syndrome fr) .none (.short fr) { altitudeFt := ac13 f.ac })) ∧
  (∀ (f : SurvAlt) (s : State) (fr : BitVec 56), fr = shortFrame 4 f.bits →
    s.cacheFound ((syndrome fr).setWidth 32) s.scan.now = true →
    ∃ t, exec (.df4SurvAlt f) s = .next t ∧ AcceptEffect (s.count .apOk) t
      (acceptedRecord s 4 f.fs (syndrome fr) .none (.short fr)
        { flightStatus := some f.fs, altitudeFt := ac13 f.ac })) ∧
  (∀ (f : SurvId) (s : State) (fr : BitVec 56), fr = shortFrame 5 f.bits →
    s.cacheFound ((syndrome fr).setWidth 32) s.scan.now = true →
    ∃ t, exec (.df5SurvId f) s = .next t ∧ AcceptEffect (s.count .apOk) t
      (acceptedRecord s 5 f.fs (syndrome fr) .none (.short fr)
        { flightStatus := some f.fs, squawk := some (squawkOf f.ident) })) ∧
  (∀ (f : AirAirLong) (s : State) (fr : BitVec 112), fr = longFrame 16 f.bits →
    s.cacheFound ((syndrome fr).setWidth 32) s.scan.now = true →
    ∃ t, exec (.df16LongAirAir f) s = .next t ∧ AcceptEffect (s.count .apOk) t
      (acceptedRecord s 16 (f.vs ++ f.spare7) (syndrome fr) .none (.long fr) { altitudeFt := ac13 f.ac })) ∧
  (∀ (f : CommBAlt) (s : State) (fr : BitVec 112), fr = longFrame 20 f.bits →
    s.cacheFound ((syndrome fr).setWidth 32) s.scan.now = true →
    ∃ t, exec (.df20CommbAlt f) s = .next t ∧ AcceptEffect (s.count .apOk) t
      (acceptedRecord s 20 f.fs (syndrome fr) .none (.long fr)
        { flightStatus := some f.fs, altitudeFt := ac13 f.ac })) ∧
  (∀ (f : CommBId) (s : State) (fr : BitVec 112), fr = longFrame 21 f.bits →
    s.cacheFound ((syndrome fr).setWidth 32) s.scan.now = true →
    ∃ t, exec (.df21CommbId f) s = .next t ∧ AcceptEffect (s.count .apOk) t
      (acceptedRecord s 21 f.fs (syndrome fr) .none (.long fr)
        { flightStatus := some f.fs, squawk := some (squawkOf f.ident) })) ∧
  (∀ (f : CommD) (s : State) (fr : BitVec 112), fr = f.frame →
    s.cacheFound ((syndrome fr).setWidth 32) s.scan.now = true →
    ∃ t, exec (.df24CommD f) s = .next t ∧ AcceptEffect (s.count .apOk) t
      (acceptedRecord s (3#2 ++ f.low) f.cap (syndrome fr) .none (.long fr) {}))

/-- 43_checksum R226: an address-parity reply whose recovered address is not in the cache is rejected as ApUnknown.
(That W, BITS, ERRCNT, FR and NBITS stand after the attempt is the model's choice, log 3.) -/
def Obligations.UnknownAddressesAreRejected : Prop :=
  (∀ (f : AirAirShort) (s : State),
    s.cacheFound ((syndrome (shortFrame 0 f.bits)).setWidth 32) s.scan.now = false →
    ∃ t, exec (.df0ShortAirAir f) s = .next t ∧ RejectEffect s t .apUnknown) ∧
  (∀ (f : SurvAlt) (s : State),
    s.cacheFound ((syndrome (shortFrame 4 f.bits)).setWidth 32) s.scan.now = false →
    ∃ t, exec (.df4SurvAlt f) s = .next t ∧ RejectEffect s t .apUnknown) ∧
  (∀ (f : SurvId) (s : State),
    s.cacheFound ((syndrome (shortFrame 5 f.bits)).setWidth 32) s.scan.now = false →
    ∃ t, exec (.df5SurvId f) s = .next t ∧ RejectEffect s t .apUnknown) ∧
  (∀ (f : AirAirLong) (s : State),
    s.cacheFound ((syndrome (longFrame 16 f.bits)).setWidth 32) s.scan.now = false →
    ∃ t, exec (.df16LongAirAir f) s = .next t ∧ RejectEffect s t .apUnknown) ∧
  (∀ (f : CommBAlt) (s : State),
    s.cacheFound ((syndrome (longFrame 20 f.bits)).setWidth 32) s.scan.now = false →
    ∃ t, exec (.df20CommbAlt f) s = .next t ∧ RejectEffect s t .apUnknown) ∧
  (∀ (f : CommBId) (s : State),
    s.cacheFound ((syndrome (longFrame 21 f.bits)).setWidth 32) s.scan.now = false →
    ∃ t, exec (.df21CommbId f) s = .next t ∧ RejectEffect s t .apUnknown) ∧
  (∀ (f : CommD) (s : State), s.cacheFound ((syndrome f.frame).setWidth 32) s.scan.now = false →
    ∃ t, exec (.df24CommD f) s = .next t ∧ RejectEffect s t .apUnknown)

/-- 43_checksum R222: a DF of no supported class is rejected as DfUnsupported, whatever the rest of the frame is. (That
W, BITS, ERRCNT, FR and NBITS stand after the attempt is the model's choice, log 3.) -/
def Obligations.UnsupportedFormatsAreRejected : Prop :=
  ∀ s : State,
    (∀ x, ∃ t, exec (.df1Unsupported x) s = .next t ∧ RejectEffect s t .dfUnsupported) ∧
    (∀ x, ∃ t, exec (.df2Unsupported x) s = .next t ∧ RejectEffect s t .dfUnsupported) ∧
    (∀ x, ∃ t, exec (.df3Unsupported x) s = .next t ∧ RejectEffect s t .dfUnsupported) ∧
    (∀ x, ∃ t, exec (.df6Unsupported x) s = .next t ∧ RejectEffect s t .dfUnsupported) ∧
    (∀ x, ∃ t, exec (.df7Unsupported x) s = .next t ∧ RejectEffect s t .dfUnsupported) ∧
    (∀ x, ∃ t, exec (.df8Unsupported x) s = .next t ∧ RejectEffect s t .dfUnsupported) ∧
    (∀ x, ∃ t, exec (.df9Unsupported x) s = .next t ∧ RejectEffect s t .dfUnsupported) ∧
    (∀ x, ∃ t, exec (.df10Unsupported x) s = .next t ∧ RejectEffect s t .dfUnsupported) ∧
    (∀ x, ∃ t, exec (.df12Unsupported x) s = .next t ∧ RejectEffect s t .dfUnsupported) ∧
    (∀ x, ∃ t, exec (.df13Unsupported x) s = .next t ∧ RejectEffect s t .dfUnsupported) ∧
    (∀ x, ∃ t, exec (.df14Unsupported x) s = .next t ∧ RejectEffect s t .dfUnsupported) ∧
    (∀ x, ∃ t, exec (.df15Unsupported x) s = .next t ∧ RejectEffect s t .dfUnsupported) ∧
    (∀ x, ∃ t, exec (.df18Unsupported x) s = .next t ∧ RejectEffect s t .dfUnsupported) ∧
    (∀ x, ∃ t, exec (.df19Unsupported x) s = .next t ∧ RejectEffect s t .dfUnsupported) ∧
    (∀ x, ∃ t, exec (.df22Unsupported x) s = .next t ∧ RejectEffect s t .dfUnsupported) ∧
    (∀ x, ∃ t, exec (.df23Unsupported x) s = .next t ∧ RejectEffect s t .dfUnsupported)

/-- 43_checksum R223, R224, R227, R228, 44_decoder R257: an all-call reply is accepted and seeds the cache when its
checksum matches, is accepted as corrected when one flip makes it match, and is rejected as CrcBad otherwise. (That FR
keeps its last 56 bits when a 56-bit frame is corrected is the model's choice, log 3.) (That W, BITS, ERRCNT, FR and
NBITS stand after the attempt is the model's choice, log 3.) -/
def Obligations.AllCallVerification : Prop :=
  ∀ (f : AllCall) (s : State) (fr : BitVec 56), fr = shortFrame 11 f.bits →
    (checksum fr = txField fr →
      ∃ t, exec (.df11AllCall f) s = .next t ∧
        AcceptEffect ((s.count .crcGood).cacheInsert (f.aa.setWidth 32) s.scan.now) t
          (acceptedRecord s 11 f.ca f.aa .none (.short fr) {})) ∧
    (∀ p, checksum fr ≠ txField fr → fix1Search fr 56 0 = some p →
      ∃ t, exec (.df11AllCall f) s = .next t ∧
        AcceptEffect
          { s.count .fix1 with
            dp := { s.dp with fr := (flipBit fr p ++ s.dp.fr.extractLsb' 0 56 : BitVec (56 + 56)) } } t
          (acceptedRecord s 11 (icao (flipBit fr p) 6 3) (icao (flipBit fr p) 9 24) (.single (BitVec.ofNat 7 p))
            (.short (flipBit fr p)) {})) ∧
    (checksum fr ≠ txField fr → fix1Search fr 56 0 = none →
      ∃ t, exec (.df11AllCall f) s = .next t ∧ RejectEffect s t .crcBad)

/-- 43_checksum R223 to R229, 44_decoder R262: an extended squitter that verifies, or that a correction makes verify,
runs as the ME message its frame decodes to; any other is rejected as CrcBad. The double-bit search is used in
aggressive mode only. (That W, BITS, ERRCNT, FR and NBITS stand after the attempt is the model's choice, log 3.) -/
def Obligations.SquitterDispatch : Prop :=
  ∀ (f : ExtSquitter) (s : State) (fr : BitVec 112), fr = longFrame 17 f.bits →
    (checksum fr = txField fr →
      ∃ i, decode (.squitter .none fr) = .ok i ∧
        exec (.df17ExtSquitter f) s = exec i ((s.count .crcGood).cacheInsert (f.aa.setWidth 32) s.scan.now)) ∧
    (∀ p, checksum fr ≠ txField fr → fix1Search fr 112 0 = some p →
      ∃ i, decode (.squitter (.single (BitVec.ofNat 7 p)) (flipBit fr p)) = .ok i ∧
        exec (.df17ExtSquitter f) s = exec i { s.count .fix1 with dp := { s.dp with fr := flipBit fr p } }) ∧
    (∀ p q, checksum fr ≠ txField fr → fix1Search fr 112 0 = none → s.regs.ctrl.getLsbD 0 = true →
      fix2Search fr 112 0 = some (p, q) →
      ∃ i, decode (.squitter (.double (BitVec.ofNat 7 p) (BitVec.ofNat 7 q)) (flipBit (flipBit fr p) q)) = .ok i ∧
        exec (.df17ExtSquitter f) s =
          exec i { s.count .fix2 with dp := { s.dp with fr := flipBit (flipBit fr p) q } }) ∧
    (checksum fr ≠ txField fr → fix1Search fr 112 0 = none →
      (s.regs.ctrl.getLsbD 0 = false ∨ fix2Search fr 112 0 = none) →
      ∃ t, exec (.df17ExtSquitter f) s = .next t ∧ RejectEffect s t .crcBad)

/-- 43_checksum R223, R228, R229, 44_decoder R250, R251, R262: every extended squitter whose checksum matches is
accepted and seeds the cache; its record has TC and ST. (That W, BITS, ERRCNT, FR and NBITS stand after the attempt is
the model's choice, log 3.) -/
def Obligations.VerifiedSquittersAreAccepted : Prop :=
  ∀ (f : ExtSquitter) (s : State) (fr : BitVec 112), fr = longFrame 17 f.bits → checksum fr = txField fr →
    ∃ t m, exec (.df17ExtSquitter f) s = .next t ∧
      AcceptEffect ((s.count .crcGood).cacheInsert (f.aa.setWidth 32) s.scan.now) t m ∧
      m.df = 17 ∧ m.capability = f.ca ∧ m.icao = f.aa ∧ m.correctedBit = .none ∧ m.frame = .long fr ∧
      m.offset = s.scan.j ∧ m.timestamp = s.scan.now ∧
      m.payload.meType = some (icao fr 33 5) ∧ m.payload.meSubtype = some (icao fr 38 3)

/-! ### ME messages -/

/-- 44_decoder R262, R263, R264: identification, TC 1 to 4, and the eight characters of a flight. The acceptance and
the record are those of 41_preamble R186, 10_state R51 and 44_decoder R250, R251. (That W, BITS, ERRCNT, FR and NBITS
stand after the attempt is the model's choice, log 3.) -/
def Obligations.IdentificationsAreAccepted : Prop :=
  (∀ chars : BitVec 48, (flightOf chars).length = 8 ∧ ∀ i, i < 8 →
    (flightOf chars)[i]? =
      "?ABCDEFGHIJKLMNOPQRSTUVWXYZ????? ???????????????0123456789??????".toList[chars.toNat / 64 ^ (7 - i) % 64]?) ∧
  ∀ (h : SquitterHead) (m : Identification) (s : State) (p : BitVec 5 → Payload),
    (∀ tc, p tc =
      { meType := some tc, meSubtype := some m.category, category := some m.category,
        flight := some (flightOf m.chars) }) →
    (∃ t, exec (.meTc1Identification h m) s = .next t ∧
      AcceptEffect s t (squitterRecord s h (h.frame 1 m.bits) (p 1))) ∧
    (∃ t, exec (.meTc2Identification h m) s = .next t ∧
      AcceptEffect s t (squitterRecord s h (h.frame 2 m.bits) (p 2))) ∧
    (∃ t, exec (.meTc3Identification h m) s = .next t ∧
      AcceptEffect s t (squitterRecord s h (h.frame 3 m.bits) (p 3))) ∧
    (∃ t, exec (.meTc4Identification h m) s = .next t ∧
      AcceptEffect s t (squitterRecord s h (h.frame 4 m.bits) (p 4)))

/-- 44_decoder R262, R265, R266: surface position, TC 5 to 8, and the speed of a movement code. The patterns are 0.125,
0.25 and 0.5. The acceptance and the record are those of 41_preamble R186, 10_state R51 and 44_decoder R250, R251.
(That W, BITS, ERRCNT, FR and NBITS stand after the attempt is the model's choice, log 3.) -/
def Obligations.SurfacePositionsAreAccepted : Prop :=
  (∀ (m : BitVec 7) (from0 : Nat → F64 → F64 → F64),
    (∀ first base width, from0 first base width =
      F64.add base (F64.mul (F64.ofNat (m.toNat - first)) width)) →
    movementOf m =
      if m.toNat = 0 then none
      else if m.toNat = 1 then some 0
      else if m.toNat ≤ 8 then some (from0 2 0x3FC0000000000000 0x3FC0000000000000)
      else if m.toNat ≤ 12 then some (from0 9 (F64.ofNat 1) 0x3FD0000000000000)
      else if m.toNat ≤ 38 then some (from0 13 (F64.ofNat 2) 0x3FE0000000000000)
      else if m.toNat ≤ 93 then some (from0 39 (F64.ofNat 15) (F64.ofNat 1))
      else if m.toNat ≤ 108 then some (from0 94 (F64.ofNat 70) (F64.ofNat 2))
      else if m.toNat ≤ 123 then some (from0 109 (F64.ofNat 100) (F64.ofNat 5))
      else if m.toNat = 124 then some (F64.ofNat 175)
      else none) ∧
  ∀ (h : SquitterHead) (m : SurfacePosition) (s : State) (p : BitVec 5 → Payload),
    (∀ tc, p tc =
      { meType := some tc, meSubtype := some (m.movement.extractLsb' 4 3), surface := some true,
        gsKt := movementOf m.movement,
        trackDeg :=
          if m.trackStatus = 1 then
            some (F64.div (F64.mul (F64.ofNat m.track.toNat) (F64.ofNat 360)) (F64.ofNat 128))
          else none,
        cprUtc := some m.t, cprFormat := some m.f, cprLat := some m.cprLat, cprLon := some m.cprLon }) →
    (∃ t, exec (.meTc5SurfacePosition h m) s = .next t ∧
      AcceptEffect s t (squitterRecord s h (h.frame 5 m.bits) (p 5))) ∧
    (∃ t, exec (.meTc6SurfacePosition h m) s = .next t ∧
      AcceptEffect s t (squitterRecord s h (h.frame 6 m.bits) (p 6))) ∧
    (∃ t, exec (.meTc7SurfacePosition h m) s = .next t ∧
      AcceptEffect s t (squitterRecord s h (h.frame 7 m.bits) (p 7))) ∧
    (∃ t, exec (.meTc8SurfacePosition h m) s = .next t ∧
      AcceptEffect s t (squitterRecord s h (h.frame 8 m.bits) (p 8)))

/-- 44_decoder R262, R267: airborne position with barometric altitude, TC 9 to 18. The acceptance and the record are
those of 41_preamble R186, 10_state R51 and 44_decoder R250, R251. (That W, BITS, ERRCNT, FR and NBITS stand after the
attempt is the model's choice, log 3.) -/
def Obligations.BaroPositionsAreAccepted : Prop :=
  ∀ (h : SquitterHead) (m : AirbornePosition) (s : State) (p : BitVec 5 → Payload),
    (∀ tc, p tc =
      { meType := some tc, meSubtype := some (m.survStatus ++ m.singleAntenna), surface := some false,
        altitudeFt := ac12 m.alt, cprUtc := some m.t, cprFormat := some m.f, cprLat := some m.cprLat,
        cprLon := some m.cprLon }) →
    (∃ t, exec (.meTc9AirbornePositionBaro h m) s = .next t ∧
      AcceptEffect s t (squitterRecord s h (h.frame 9 m.bits) (p 9))) ∧
    (∃ t, exec (.meTc10AirbornePositionBaro h m) s = .next t ∧
      AcceptEffect s t (squitterRecord s h (h.frame 10 m.bits) (p 10))) ∧
    (∃ t, exec (.meTc11AirbornePositionBaro h m) s = .next t ∧
      AcceptEffect s t (squitterRecord s h (h.frame 11 m.bits) (p 11))) ∧
    (∃ t, exec (.meTc12AirbornePositionBaro h m) s = .next t ∧
      AcceptEffect s t (squitterRecord s h (h.frame 12 m.bits) (p 12))) ∧
    (∃ t, exec (.meTc13AirbornePositionBaro h m) s = .next t ∧
      AcceptEffect s t (squitterRecord s h (h.frame 13 m.bits) (p 13))) ∧
    (∃ t, exec (.meTc14AirbornePositionBaro h m) s = .next t ∧
      AcceptEffect s t (squitterRecord s h (h.frame 14 m.bits) (p 14))) ∧
    (∃ t, exec (.meTc15AirbornePositionBaro h m) s = .next t ∧
      AcceptEffect s t (squitterRecord s h (h.frame 15 m.bits) (p 15))) ∧
    (∃ t, exec (.meTc16AirbornePositionBaro h m) s = .next t ∧
      AcceptEffect s t (squitterRecord s h (h.frame 16 m.bits) (p 16))) ∧
    (∃ t, exec (.meTc17AirbornePositionBaro h m) s = .next t ∧
      AcceptEffect s t (squitterRecord s h (h.frame 17 m.bits) (p 17))) ∧
    (∃ t, exec (.meTc18AirbornePositionBaro h m) s = .next t ∧
      AcceptEffect s t (squitterRecord s h (h.frame 18 m.bits) (p 18)))

/-- 44_decoder R262, R269: airborne position with GNSS height, TC 20 to 22; no altitude. The acceptance and the record
are those of 41_preamble R186, 10_state R51 and 44_decoder R250, R251. (That W, BITS, ERRCNT, FR and NBITS stand after
the attempt is the model's choice, log 3.) -/
def Obligations.GnssPositionsAreAccepted : Prop :=
  ∀ (h : SquitterHead) (m : AirbornePosition) (s : State) (p : BitVec 5 → Payload),
    (∀ tc, p tc =
      { meType := some tc, meSubtype := some (m.survStatus ++ m.singleAntenna), surface := some false,
        cprUtc := some m.t, cprFormat := some m.f, cprLat := some m.cprLat, cprLon := some m.cprLon }) →
    (∃ t, exec (.meTc20AirbornePositionGnss h m) s = .next t ∧
      AcceptEffect s t (squitterRecord s h (h.frame 20 m.bits) (p 20))) ∧
    (∃ t, exec (.meTc21AirbornePositionGnss h m) s = .next t ∧
      AcceptEffect s t (squitterRecord s h (h.frame 21 m.bits) (p 21))) ∧
    (∃ t, exec (.meTc22AirbornePositionGnss h m) s = .next t ∧
      AcceptEffect s t (squitterRecord s h (h.frame 22 m.bits) (p 22)))

/-- 44_decoder R262, R270, R272: airborne velocity over ground, TC 19 with ST 1 and, four times as fast, ST 2. atan2 is
free (log 8), and a comparison with a NaN of it is false (log 11); the pattern is the binary64 nearest to pi. The
acceptance and the record are those of 41_preamble R186, 10_state R51 and 44_decoder R250, R251. (That W, BITS, ERRCNT,
FR and NBITS stand after the attempt is the model's choice, log 3.) -/
def Obligations.GroundVelocitiesAreAccepted : Prop :=
  ∀ (h : SquitterHead) (m : VelocityGround) (s : State) (p : BitVec 3 → Int → Payload) (vx vy : Int → Int)
    (angle : Int → F64),
    (∀ k, vx k = (if m.dew = 1 then -1 else 1) * (((m.vew.toNat : Int) - 1) * k)) →
    (∀ k, vy k = (if m.dns = 1 then -1 else 1) * (((m.vns.toNat : Int) - 1) * k)) →
    (∀ k, angle k =
      F64.div (F64.mul (Config.ATAN2 (F64.ofInt (vx k)) (F64.ofInt (vy k))) (F64.ofNat 180)) 0x400921FB54442D18) →
    (∀ st k, p st k =
      let vertical : Payload :=
        { meType := some 19, meSubtype := some st,
          vertRateFpm :=
            if m.vr = 0 then none else some ((if m.svr = 1 then -1 else 1) * (((m.vr.toNat : Int) - 1) * 64)) }
      if m.vew ≠ 0 ∧ m.vns ≠ 0 then
        { vertical with
          velEwKt := some (vx k), velNsKt := some (vy k),
          gsKt := some (F64.sqrt (F64.add (F64.mul (F64.ofInt (vx k)) (F64.ofInt (vx k)))
            (F64.mul (F64.ofInt (vy k)) (F64.ofInt (vy k))))),
          trackDeg := some (if F64.lt (angle k) 0 = true then F64.add (angle k) (F64.ofNat 360) else angle k) }
      else vertical) →
    (∃ t, exec (.meTc19St1VelocityGround h m) s = .next t ∧
      AcceptEffect s t (squitterRecord s h (h.frame19 1 m.bits) (p 1 1))) ∧
    (∃ t, exec (.meTc19St2VelocityGround h m) s = .next t ∧
      AcceptEffect s t (squitterRecord s h (h.frame19 2 m.bits) (p 2 4)))

/-- 44_decoder R262, R271, R272: airspeed and heading, TC 19 with ST 3 and, four times as fast, ST 4. The acceptance
and the record are those of 41_preamble R186, 10_state R51 and 44_decoder R250, R251. (That W, BITS, ERRCNT, FR and
NBITS stand after the attempt is the model's choice, log 3.) -/
def Obligations.AirspeedsAreAccepted : Prop :=
  ∀ (h : SquitterHead) (m : VelocityAir) (s : State) (p : BitVec 3 → Nat → Payload),
    (∀ st k, p st k =
      { meType := some 19, meSubtype := some st,
        headingDeg :=
          if m.headingStatus = 1 then
            some (F64.div (F64.mul (F64.ofNat m.heading.toNat) (F64.ofNat 360)) (F64.ofNat 1024))
          else none,
        airspeedKt := if m.airspeed = 0 then none else some ((m.airspeed.toNat - 1) * k),
        airspeedType := if m.airspeed = 0 then none else some (if m.airspeedType = 1 then .tas else .ias),
        vertRateFpm :=
          if m.vr = 0 then none else some ((if m.svr = 1 then -1 else 1) * (((m.vr.toNat : Int) - 1) * 64)) }) →
    (∃ t, exec (.meTc19St3VelocityAirspeed h m) s = .next t ∧
      AcceptEffect s t (squitterRecord s h (h.frame19 3 m.bits) (p 3 1))) ∧
    (∃ t, exec (.meTc19St4VelocityAirspeed h m) s = .next t ∧
      AcceptEffect s t (squitterRecord s h (h.frame19 4 m.bits) (p 4 4)))

/-- 44_decoder R262, R273: TC 0, TC 23 to 31, and TC 19 with ST 0, 5, 6 or 7 set only TC and ST. The acceptance and the
record are those of 41_preamble R186, 10_state R51 and 44_decoder R250, R251. (That W, BITS, ERRCNT, FR and NBITS stand
after the attempt is the model's choice, log 3.) -/
def Obligations.OtherMessagesAreAccepted : Prop :=
  ∀ (h : SquitterHead) (m : OtherMe) (r : BitVec 48) (s : State) (p : BitVec 5 → BitVec 3 → Payload),
    (∀ tc st, p tc st = { meType := some tc, meSubtype := some st }) →
    (∃ t, exec (.meTc0NoPosition h m) s = .next t ∧
      AcceptEffect s t (squitterRecord s h (h.frame 0 m.bits) (p 0 m.st))) ∧
    (∃ t, exec (.meTc23Other h m) s = .next t ∧
      AcceptEffect s t (squitterRecord s h (h.frame 23 m.bits) (p 23 m.st))) ∧
    (∃ t, exec (.meTc24Other h m) s = .next t ∧
      AcceptEffect s t (squitterRecord s h (h.frame 24 m.bits) (p 24 m.st))) ∧
    (∃ t, exec (.meTc25Other h m) s = .next t ∧
      AcceptEffect s t (squitterRecord s h (h.frame 25 m.bits) (p 25 m.st))) ∧
    (∃ t, exec (.meTc26Other h m) s = .next t ∧
      AcceptEffect s t (squitterRecord s h (h.frame 26 m.bits) (p 26 m.st))) ∧
    (∃ t, exec (.meTc27Other h m) s = .next t ∧
      AcceptEffect s t (squitterRecord s h (h.frame 27 m.bits) (p 27 m.st))) ∧
    (∃ t, exec (.meTc28Other h m) s = .next t ∧
      AcceptEffect s t (squitterRecord s h (h.frame 28 m.bits) (p 28 m.st))) ∧
    (∃ t, exec (.meTc29Other h m) s = .next t ∧
      AcceptEffect s t (squitterRecord s h (h.frame 29 m.bits) (p 29 m.st))) ∧
    (∃ t, exec (.meTc30Other h m) s = .next t ∧
      AcceptEffect s t (squitterRecord s h (h.frame 30 m.bits) (p 30 m.st))) ∧
    (∃ t, exec (.meTc31Other h m) s = .next t ∧
      AcceptEffect s t (squitterRecord s h (h.frame 31 m.bits) (p 31 m.st))) ∧
    (∃ t, exec (.meTc19St0Reserved h r) s = .next t ∧
      AcceptEffect s t (squitterRecord s h (h.frame19 0 r) (p 19 0))) ∧
    (∃ t, exec (.meTc19St5Reserved h r) s = .next t ∧
      AcceptEffect s t (squitterRecord s h (h.frame19 5 r) (p 19 5))) ∧
    (∃ t, exec (.meTc19St6Reserved h r) s = .next t ∧
      AcceptEffect s t (squitterRecord s h (h.frame19 6 r) (p 19 6))) ∧
    (∃ t, exec (.meTc19St7Reserved h r) s = .next t ∧
      AcceptEffect s t (squitterRecord s h (h.frame19 7 r) (p 19 7)))

/-! ### Field functions -/

/-- 44_decoder R252, R253, R268: the 13-bit and the 12-bit altitude code as numbers, and the squawk's four digits from the
bits C1 A1 C2 A2 C4 A4 X B1 D1 B2 D2 B4 D4. -/
def Obligations.AltitudeAndIdentityCodes : Prop :=
  (∀ a : BitVec 13, ac13 a =
    if a.toNat / 64 % 2 = 0 ∧ a.toNat / 16 % 2 = 1 then
      some (25 * ((a.toNat / 128 * 32 + a.toNat / 32 % 2 * 16 + a.toNat % 16 : Nat) : Int) - 1000)
    else none) ∧
  (∀ a : BitVec 12, ac12 a =
    if a.toNat / 16 % 2 = 1 then some (25 * ((a.toNat / 32 * 16 + a.toNat % 16 : Nat) : Int) - 1000) else none) ∧
  (∀ (c1 a1 c2 a2 c4 a4 x b1 d1 b2 d2 b4 d4 : BitVec 1) (ident : BitVec 13),
    ident = c1 ++ (a1 ++ (c2 ++ (a2 ++ (c4 ++ (a4 ++ (x ++ (b1 ++ (d1 ++ (b2 ++ (d2 ++ (b4 ++ d4))))))))))) →
    (squawkOf ident).toNat =
      1000 * (4 * a4.toNat + 2 * a2.toNat + a1.toNat) + 100 * (4 * b4.toNat + 2 * b2.toNat + b1.toNat) +
        10 * (4 * c4.toNat + 2 * c2.toNat + c1.toNat) + (4 * d4.toNat + 2 * d2.toNat + d1.toNat))

/-! ### The tracker and the resolver -/

/-- 46_tracker R331 to R333, R338: a message without a position updates the slot of its address, else makes a track in the
lowest invalid slot, else changes no slot; no other slot changes. -/
def Obligations.TrackUpdateWithoutPosition : Prop :=
  ∀ (s : State) (m : Message), TracksOk s → m.payload.cprLat = none →
    (∀ i a, (i, a) ∈ s.tracks → a.icao = m.icao →
      Sparse.lookup (s.trackUpdate m).tracks i = some (scalarsUpdated a m.payload s.scan.now) ∧
      ∀ k, k ≠ i → Sparse.lookup (s.trackUpdate m).tracks k = Sparse.lookup s.tracks k) ∧
    ((∀ e ∈ s.tracks, e.2.icao ≠ m.icao) → ∀ i, i < 1024 → Sparse.lookup s.tracks i = none →
      (∀ k, k < i → Sparse.lookup s.tracks k ≠ none) →
      (∃ u, Sparse.lookup (s.trackUpdate m).tracks i = some u ∧ u.icao = m.icao ∧ u.lastSeen = s.scan.now ∧
        u.messageCount = 1 ∧ u.pos = none ∧ u.cprEven = none ∧ u.cprOdd = none ∧ u.onGround = none ∧
        u.altitudeFt = m.payload.altitudeFt ∧ u.squawk = m.payload.squawk ∧
        u.flightStatus = m.payload.flightStatus ∧ u.flight = m.payload.flight ∧ u.category = m.payload.category ∧
        u.gsKt = m.payload.gsKt ∧ u.trackDeg = m.payload.trackDeg ∧ u.headingDeg = m.payload.headingDeg ∧
        u.airspeedKt = m.payload.airspeedKt ∧ u.airspeedType = m.payload.airspeedType ∧
        u.vertRateFpm = m.payload.vertRateFpm) ∧
      ∀ k, k ≠ i → Sparse.lookup (s.trackUpdate m).tracks k = Sparse.lookup s.tracks k) ∧
    ((∀ e ∈ s.tracks, e.2.icao ≠ m.icao) → (∀ i, i < 1024 → Sparse.lookup s.tracks i ≠ none) →
      (s.trackUpdate m).tracks = s.tracks)

/-- 45_cpr R306, R307, with the decodes, references, pairing and checks of R293 to R305 as Safety.lean writes them, and
46_tracker R331, R332, R334. CPR_UPDATE stores the sample under its parity, writes on_ground and leaves all but the
position. A local decode that passes the checks sets the position; where it does not, the global decode of the pair sets
it or its failure is counted, and without a pair or a reference the position stands. TRACK_UPDATE of a message with a
position is SCALAR_UPDATE and then CPR_UPDATE of its slot, or of a new track, and the counters grow by those of CPR_UPDATE.
(The pos_time of a track without a position, 0 in a new one and kept where none is set, is the model's choice, log 7. An
elapsed time that passes 2^53 ms or is negative is converted as log 12 deduces. sin, cos and asin are free, log 8, and so is
what a NaN of theirs gives in floor, min and max, logs 9 to 11; a comparison with a NaN is false, log 11.) -/
def Obligations.PositionUpdates : Prop :=
  (∀ (env : CprEnv) (a u : Track) (lat lon : BitVec 17) (odd surface : Bool) (cs : List Cnt),
    cprUpdate env a lat lon odd surface = (u, cs) →
    (u = { a with
          pos := u.pos, posTime := u.posTime, posSource := u.posSource, onGround := some surface
          cprEven := if odd then a.cprEven else some ⟨lat, lon, env.now, surface⟩
          cprOdd := if odd then some ⟨lat, lon, env.now, surface⟩ else a.cprOdd } ∧
      ((PositionKept a u ∧ ∀ c ∈ cs, c ∈ [.cprZone, .cprBadLat, .cprFar, .cprRejRange, .cprRejSpeed]) ∨
        (∃ (p : Position) (before : List Cnt), u.pos = some p ∧ u.posTime = env.now ∧ p.inRange = true ∧
          (∀ c ∈ before, c ∈ [.cprBadLat, .cprFar, .cprRejRange, .cprRejSpeed]) ∧
          ((u.posSource = .global ∧ cs = before ++ [.cprGlobal]) ∨
            (u.posSource = .localFix ∧ cs = before ++ [.cprLocal]) ∨
            (u.posSource = .relative ∧ cs = before ++ [.cprRelative]))))) ∧
    (∀ ref src p, LocalReference env a surface ref src → localAsWritten ref lat lon odd surface = .ok p →
      Plausible env a p surface → PositionAccepted env a u [] cs p src) ∧
    ∀ tried, LocalFails env a lat lon odd surface tried →
      ((∀ q, ¬Paired env a odd surface q) → PositionKept a u ∧ cs = tried) ∧
      ((∀ ref, ¬GlobalReference env a surface ref) → PositionKept a u ∧ cs = tried) ∧
      ∀ q ref, Paired env a odd surface q → GlobalReference env a surface ref →
        (∀ c, Refused env a surface (pairAsWritten lat lon q odd surface ref) c →
          PositionKept a u ∧ cs = tried ++ [c]) ∧
        ∀ p, pairAsWritten lat lon q odd surface ref = .ok p → Plausible env a p surface →
          PositionAccepted env a u tried cs p .global) ∧
  ∀ (s : State) (m : Message) (lat : BitVec 17), TracksOk s → m.payload.cprLat = some lat →
    (∀ i a, (i, a) ∈ s.tracks → a.icao = m.icao →
      Sparse.lookup (s.trackUpdate m).tracks i = some (positionUpdate s a m.payload lat).1 ∧
      (∀ k, k ≠ i → Sparse.lookup (s.trackUpdate m).tracks k = Sparse.lookup s.tracks k) ∧
      ∀ c, CountedBy s (s.trackUpdate m) c ((positionUpdate s a m.payload lat).2.count c)) ∧
    ((∀ e ∈ s.tracks, e.2.icao ≠ m.icao) → ∀ i a, i < 1024 → Sparse.lookup s.tracks i = none →
      (∀ k, k < i → Sparse.lookup s.tracks k ≠ none) → a = createdTrack m.icao s.scan.now →
      Sparse.lookup (s.trackUpdate m).tracks i = some (positionUpdate s a m.payload lat).1 ∧
      (∀ k, k ≠ i → Sparse.lookup (s.trackUpdate m).tracks k = Sparse.lookup s.tracks k) ∧
      ∀ c, CountedBy s (s.trackUpdate m) c ((positionUpdate s a m.payload lat).2.count c)) ∧
    ((∀ e ∈ s.tracks, e.2.icao ≠ m.icao) → (∀ i, i < 1024 → Sparse.lookup s.tracks i ≠ none) →
      (s.trackUpdate m).tracks = s.tracks ∧
      ∀ c, CountedBy s (s.trackUpdate m) c (if c = .trackFull then 1 else 0))

/-- 45_cpr R291, R293 to R296 and its section 7: the reference vectors of the global decode, in the air and on the surface,
bit for bit. The surface pair is decoded about latitude 52 and the longitudes the vectors group (first -40, 0 and 40), and
once about (-52, 0). NL at every latitude that is a number: 59 less the number of thresholds at or below its absolute
value; the 58 decimals of R291 stand as binary64 patterns, which rise as the values do. -/
def Obligations.GlobalDecodeVectors : Prop :=
  globalDecode 80536 9432 61720 9192 false false ⟨0, 0⟩ = .ok ⟨0x4049D7E400000000, 0x3FE667ACF914C1BB⟩ ∧
  globalDecode 80536 9432 61720 9192 true false ⟨0, 0⟩ = .ok ⟨0x4049D7E7DD49C341, 0x3FE6710000000000⟩ ∧
  globalDecode 0 0 96118 0 false false ⟨0, 0⟩ = .badLat ∧
  (∀ odd, globalDecode 85197 13107 65871 13107 odd false ⟨0, 0⟩ = .zone) ∧
  (∀ rl ∈ ([0xC044000000000000, 0x0, 0x4044000000000000] : List F64),
    globalDecode 105644 9280 29609 9022 false true ⟨0x404A000000000000, rl⟩ =
      .ok ⟨0x404A1AC080000000, 0x3FC6A80000000000⟩) ∧
  (∀ rl ∈ ([0x4049000000000000, 0x4060400000000000] : List F64),
    globalDecode 105644 9280 29609 9022 false true ⟨0x404A000000000000, rl⟩ =
      .ok ⟨0x404A1AC080000000, 0x40568B5400000000⟩) ∧
  (∀ rl ∈ ([0xC060400000000000, 0xC049000000000000] : List F64),
    globalDecode 105644 9280 29609 9022 false true ⟨0x404A000000000000, rl⟩ =
      .ok ⟨0x404A1AC080000000, 0xC05674AC00000000⟩) ∧
  (∀ rl ∈ ([0xC066800000000000, 0xC061800000000000, 0x4061800000000000, 0x4066800000000000] : List F64),
    globalDecode 105644 9280 29609 9022 false true ⟨0x404A000000000000, rl⟩ =
      .ok ⟨0x404A1AC080000000, 0xC0667A5600000000⟩) ∧
  globalDecode 105644 9280 29609 9022 true true ⟨0x404A000000000000, 0x0⟩ =
      .ok ⟨0x404A1AC072FBA938, 0x3FC6A7DB6DB6DB6E⟩ ∧
  globalDecode 105644 9280 29609 9022 true true ⟨0x404A000000000000, 0x4049000000000000⟩ =
      .ok ⟨0x404A1AC072FBA938, 0x40568B53EDB6DB6E⟩ ∧
  globalDecode 105644 9280 29609 9022 true true ⟨0x404A000000000000, 0xC049000000000000⟩ =
      .ok ⟨0x404A1AC072FBA938, 0xC05674AC12492492⟩ ∧
  globalDecode 105644 9280 29609 9022 true true ⟨0x404A000000000000, 0x4066800000000000⟩ =
      .ok ⟨0x404A1AC072FBA938, 0xC0667A5609249249⟩ ∧
  globalDecode 105644 9280 29609 9022 false true ⟨0xC04A000000000000, 0⟩ = .ok ⟨0xC042E53F80000000, 0x3FC15A8D9DF51B3C⟩ ∧
  (∀ (lat : F64) (x : Nat), x = lat.toNat % 2 ^ 63 → x ≤ 0x7FF0000000000000 →
    nl lat = 59 - (([
      0x4024F0E19D3E69C8, 0x402DA80678951220, 0x40322FAEF8259612, 0x403507866D1704A9, 0x40378B880F8380A9,
      0x4039D4498935F42E, 0x403BF0617565DDAA, 0x403DE94EAEE4AF6D, 0x403FC5A8277BEFE6, 0x4040C51C91B117E5,
      0x40419D4FBD8281FB, 0x40426CD50702FE8D, 0x404334CA24A6D369, 0x4043F616AB931648, 0x4044B1796EABDA39,
      0x40456791E748A409, 0x404618E6FF937390, 0x4046C5EC15A7DCFE, 0x40476F04C0841421, 0x40481487B39314F0,
      0x4048B6C0FBC8B8C1, 0x404955F3C4327471, 0x4049F25BBD807E96, 0x404A8C2E40C597FA, 0x404B239B3AAE7CAB,
      0x404BB8CDEDB42308, 0x404C4BED91E94C09, 0x404CDD1DDA5B80AF, 0x404D6C7F64E50700, 0x404DFA30188C12F3,
      0x404E864B74C87EDF, 0x404F10EAD5B6D640, 0x404F9A25AD233940, 0x40501108D9E38BAB, 0x40505461891C73D4,
      0x4050972642090EF2, 0x4050D95FBA3A4E05, 0x40511B160A42F9FB, 0x40515C50B67115C2, 0x40519D16B441BB8C,
      0x4051DD6E6C79FBC5, 0x40521D5DB94E6AC7, 0x40525CE9DF41C471, 0x40529C177F4D9306, 0x4052DAEA7F450497,
      0x40531965E3FFC446, 0x4053578B95D594C7, 0x4053955C027F8C27, 0x4053D2D58537E2C5, 0x40540FF36B51DD98,
      0x40544CAC40C5EDE0, 0x405488EEB6365D5F, 0x4054C49B8E9C0F96, 0x4054FF7898B84830, 0x40553910FD1DA27D,
      0x40557058BD3B345F, 0x4055A2438072D70D, 0x4055C00000000000] : List Nat).filter (fun t => t ≤ x)).length) ∧
  nl 0x0 = 59 ∧ nl 0x4024F0A3D70A3D71 = 59 ∧ nl 0x4024F0E19D3E69C8 = 58 ∧
  nl 0x4049E66666666666 = 37 ∧ nl 0x404A000000000000 = 36 ∧ nl 0xC04A000000000000 = 36 ∧
  nl 0x4055B9999999999A = 2 ∧ nl 0x4055C00000000000 = 1 ∧ nl 0x4056800000000000 = 1

/-! ### Magnitudes, slicing and phase correction -/

/-- 40_magnitude R170, R171: a magnitude is 360 times the distance from the centre, rounded to the nearest integer. -/
def Obligations.MagnitudesAreRounded : Prop :=
  ∀ (i q : Byte) (n : Int) (r : Int),
    n = ((i.toNat : Int) - 127) ^ 2 + ((q.toNat : Int) - 127) ^ 2 → r = ((magOf i q).toNat : Int) →
    4 * (129600 * n) < (2 * r + 1) ^ 2 ∧ (r = 0 ∨ (2 * r - 1) ^ 2 < 4 * (129600 * n))

/-- 41_preamble R188: the samples phase correction leaves, and how the bit decided on one pair, as corrected so far, scales
a sample of the next pair, for both targets; no value wraps. -/
def Obligations.PhaseCorrectionScalesTheNextPair : Prop :=
  ∀ (target : Config.PhaseTarget) (w v : List (BitVec 17)), w.length = 240 → (∀ x ∈ w, x.toNat ≤ 65167) →
    v = phaseCorrect target w →
    v.length = 240 ∧ (∀ x ∈ v, x.toNat ≤ 81458) ∧ (∀ x, x < 18 → v[x]? = w[x]?) ∧
    ∀ k, k < 111 → ∀ lo hi a b : BitVec 17,
      v[16 + 2 * k]? = some lo → v[17 + 2 * k]? = some hi → w[18 + 2 * k]? = some a → w[19 + 2 * k]? = some b →
      (target = .high → v[18 + 2 * k]? = some a ∧ ∃ y, v[19 + 2 * k]? = some y ∧
        y.toNat = if hi < lo then b.toNat * 5 / 4 else b.toNat * 4 / 5) ∧
      (target = .low → v[19 + 2 * k]? = some b ∧ ∃ y, v[18 + 2 * k]? = some y ∧
        y.toNat = if hi < lo then a.toNat * 5 / 4 else a.toNat * 4 / 5)

/-! ### Rules about the whole machine -/

/-- 70_reset R423, 60_exceptions R390, R398: a step never stops but for a SAMPLE_READ or a PROCESS of a byte that was never
written. -/
def Obligations.OnlySampleReadsFault : Prop :=
  ∀ s : State, (∃ t, step s = .next t) ∨
    ∃ a w x y rest, step s = .fault (.unwrittenSample a) ∧ s.readSample a = none ∧ a < 262622 ∧
      s.schedule = .command w x y :: rest ∧
      (decodeCommand w x y = .sampleRead x ∨ decodeCommand w x y = .process x y)

/-- 47_commands R364, 10_state R43: which instructions can change sample RAM, the configuration registers and LAST_TIME. -/
def Obligations.OnlyTheirCommandsWrite : Prop :=
  ∀ (i : Instr) (s t : State), exec i s = .next t →
    ((∀ a b, i ≠ .sampleWrite a b) → ∀ x, t.readSample x = s.readSample x) ∧
    ((∀ sel a, i ≠ .regWrite sel a) → i ≠ .reset →
      t.regs = { s.regs with lastTime := t.regs.lastTime }) ∧
    ((∀ a b, i ≠ .process a b) → (∀ b, i ≠ .sweep b) → i ≠ .reset → t.regs.lastTime = s.regs.lastTime)

/-- 43_checksum R228: the pipeline inserts an address into the cache only from a DF11 or DF17 frame whose checksum matches
without correction. -/
def Obligations.CacheSeeding : Prop :=
  ∀ (i : Instr) (s t : State), exec i s = .next t → i ≠ .reset → (∀ a b, i ≠ .cacheInsert a b) →
    t.cache = s.cache ∨
    (∃ f, i = .df11AllCall f ∧ checksum (shortFrame 11 f.bits) = txField (shortFrame 11 f.bits) ∧
      t.cache = (s.cacheInsert (f.aa.setWidth 32) s.scan.now).cache) ∨
    (∃ f, i = .df17ExtSquitter f ∧ checksum (longFrame 17 f.bits) = txField (longFrame 17 f.bits) ∧
      t.cache = (s.cacheInsert (f.aa.setWidth 32) s.scan.now).cache)

/-- 46_tracker R337: no step and no command but SWEEP (and RESET) removes a track or moves it to another slot. -/
def Obligations.OnlySweepRemovesTracks : Prop :=
  ∀ (i : Instr) (s t : State), TracksOk s → exec i s = .next t → i ≠ .reset → (∀ b, i ≠ .sweep b) →
    ∀ k a, Sparse.lookup s.tracks k = some a →
      ∃ u, Sparse.lookup t.tracks k = some u ∧ u.icao = a.icao

/-- 20_memory R81, R94, 41_preamble R184: a pipeline step, at the head of the schedule or with an empty one (log 1), does
not read sample RAM. -/
def Obligations.PipelineIgnoresSampleRam : Prop :=
  ∀ (s t : State) (r : Memory), PipelinesTurn s → step s = .next t →
    step { s with ram := r } = .next { t with ram := r }

/-- 70_reset R430: every scan step advances J, or leaves it and turns a Scanning step's candidate into a retry; a retry
always ends in Scanning. (The pipeline's turn is at the head of the schedule, or the schedule is empty: log 1.) -/
def Obligations.ScanStepsAdvance : Prop :=
  ∀ s : State, ScansNext s → ScanOk s →
    ∃ t, step s = .next t ∧ t.scan.n = s.scan.n ∧
      ((t.scan.pst = .scanning ∧ s.scan.j.toNat < t.scan.j.toNat) ∨
        (s.scan.pst = .scanning ∧ t.scan.pst = .correcting ∧ t.scan.j = s.scan.j ∧ t.status.busy = true))

/-! ### Invariants -/

/-- 10_state R31, R32, 41_preamble R185: every step keeps the scan registers legal. -/
def Obligations.ScanStaysLegal : Prop := ∀ s t : State, ScanOk s → step s = .next t → ScanOk t

/-- 20_memory R80, R81, 10_state R48: every step keeps the memories in canonical form and in range. -/
def Obligations.MemoriesStayCanonical : Prop := ∀ s t : State, MemoriesOk s → step s = .next t → MemoriesOk t

/-- 46_tracker R331, R338, 45_cpr R307: every step keeps one slot per address and every position in range. -/
def Obligations.TracksStayUnique : Prop := ∀ s t : State, TracksOk s → step s = .next t → TracksOk t

/-- 45_cpr R301, 60_exceptions R401: no step puts a time ahead of NOW, or NOW ahead of LAST_TIME. -/
def Obligations.TimesNeverRunAhead : Prop := ∀ s t : State, TimesOk s → step s = .next t → TimesOk t

/-- 10_state R38, R51, 43_checksum R224 to R226: every step keeps the FIFO within its depth and its records verified, with
every corrected bit inside the record's own frame, of 56 or 112 bits. -/
def Obligations.FifoStaysVerified : Prop := ∀ s t : State, FifoOk s → step s = .next t → FifoOk t

/-- 10_state R39, R41 to R44: every step keeps the configuration registers legal. -/
def Obligations.RegistersStayLegal : Prop := ∀ s t : State, RegsOk s → step s = .next t → RegsOk t

/-- 70_reset R421: the state after power-on meets every invariant. -/
def Obligations.ResetMeetsTheInvariants : Prop :=
  ScanOk State.reset ∧ MemoriesOk State.reset ∧ TracksOk State.reset ∧ TimesOk State.reset ∧ FifoOk State.reset ∧
    RegsOk State.reset
end

