-- ==== Sys2Proof/Laws/Checksum.lean ====
section
/-! SUPPORT. The checksum's recursion over the parity table is an exclusive or over the bits set (43_checksum R220). -/

namespace Sys2Proof.Machine

theorem foldl_xor_acc (l : List Nat) (g : Nat → U24) (c : U24) :
    l.foldl (fun c k => c ^^^ g k) c = c ^^^ l.foldl (fun c k => c ^^^ g k) 0 := by
  induction l generalizing c with
  | nil => simp
  | cons x l ih =>
    rw [List.foldl_cons, List.foldl_cons, ih, ih (0 ^^^ g x)]
    simp [BitVec.xor_assoc]

/-- The exclusive or of the entries of the bits set, from bit k on. -/
theorem crcFrom_eq {n : Nat} (f : BitVec n) (ts : List U24) (k m : Nat) (h : m = ts.length) :
    crcFrom f ts k =
      ((List.range' k m).filter (fun k => f.getMsbD k)).foldl (fun c j => c ^^^ ts.getD (j - k) 0) 0 := by
  induction ts generalizing k m with
  | nil => subst h; rfl
  | cons t ts ih =>
    subst h
    simp only [crcFrom, List.length_cons, List.range'_succ, List.filter_cons]
    have : ∀ c : U24,
        List.foldl (fun c j => c ^^^ (t :: ts).getD (j - k) 0) c
          ((List.range' (k + 1) ts.length).filter (fun k => f.getMsbD k)) =
        List.foldl (fun c j => c ^^^ ts.getD (j - (k + 1)) 0) c
          ((List.range' (k + 1) ts.length).filter (fun k => f.getMsbD k)) := by
      intro c
      apply List.foldl_ext
      intro c x hx
      have := (List.mem_filter.1 hx).1
      rw [List.mem_range'_1] at this
      rw [show x - k = (x - (k + 1)) + 1 by omega]
      simp
    rw [ih (k + 1) _ rfl]
    split
    · rw [List.foldl_cons, foldl_xor_acc, this]
      simp [foldl_xor_acc _ _ t]
    · rw [this]; simp

end Sys2Proof.Machine
end

