-- ==== Sys2Proof/Laws/State.lean ====
section
/-! SUPPORT. One lemma for each field and each named update of the state, all by definition, so that no proof unfolds a
record update. -/

namespace Sys2Proof.Machine

/-! ### respond -/

@[simp] theorem State.respond_regs (s : State) (r : Status) (v : U64) (o : Option RspRecord) : (s.respond r v o).regs = s.regs := rfl
@[simp] theorem State.respond_status (s : State) (r : Status) (v : U64) (o : Option RspRecord) : (s.respond r v o).status = s.status := rfl
@[simp] theorem State.respond_scan (s : State) (r : Status) (v : U64) (o : Option RspRecord) : (s.respond r v o).scan = s.scan := rfl
@[simp] theorem State.respond_dp (s : State) (r : Status) (v : U64) (o : Option RspRecord) : (s.respond r v o).dp = s.dp := rfl
@[simp] theorem State.respond_counters (s : State) (r : Status) (v : U64) (o : Option RspRecord) : (s.respond r v o).counters = s.counters := rfl
@[simp] theorem State.respond_cache (s : State) (r : Status) (v : U64) (o : Option RspRecord) : (s.respond r v o).cache = s.cache := rfl
@[simp] theorem State.respond_tracks (s : State) (r : Status) (v : U64) (o : Option RspRecord) : (s.respond r v o).tracks = s.tracks := rfl
@[simp] theorem State.respond_fifo (s : State) (r : Status) (v : U64) (o : Option RspRecord) : (s.respond r v o).fifo = s.fifo := rfl
@[simp] theorem State.respond_ram (s : State) (r : Status) (v : U64) (o : Option RspRecord) : (s.respond r v o).ram = s.ram := rfl
@[simp] theorem State.respond_mag (s : State) (r : Status) (v : U64) (o : Option RspRecord) : (s.respond r v o).mag = s.mag := rfl
@[simp] theorem State.respond_rsp (s : State) (r : Status) (v : U64) (o : Option RspRecord) : (s.respond r v o).rsp = ⟨r, v, o⟩ := rfl
@[simp] theorem State.respond_schedule (s : State) (r : Status) (v : U64) (o : Option RspRecord) : (s.respond r v o).schedule = s.schedule := rfl

/-! ### raise -/

@[simp] theorem State.raise_regs (s : State) (r : Status) : (s.raise r).regs = s.regs := rfl
@[simp] theorem State.raise_status (s : State) (r : Status) : (s.raise r).status = { s.status with lastErr := r.code } := rfl
@[simp] theorem State.raise_scan (s : State) (r : Status) : (s.raise r).scan = s.scan := rfl
@[simp] theorem State.raise_dp (s : State) (r : Status) : (s.raise r).dp = s.dp := rfl
@[simp] theorem State.raise_counters (s : State) (r : Status) : (s.raise r).counters = s.counters := rfl
@[simp] theorem State.raise_cache (s : State) (r : Status) : (s.raise r).cache = s.cache := rfl
@[simp] theorem State.raise_tracks (s : State) (r : Status) : (s.raise r).tracks = s.tracks := rfl
@[simp] theorem State.raise_fifo (s : State) (r : Status) : (s.raise r).fifo = s.fifo := rfl
@[simp] theorem State.raise_ram (s : State) (r : Status) : (s.raise r).ram = s.ram := rfl
@[simp] theorem State.raise_mag (s : State) (r : Status) : (s.raise r).mag = s.mag := rfl
@[simp] theorem State.raise_rsp (s : State) (r : Status) : (s.raise r).rsp = ⟨r, 0#64, none⟩ := rfl
@[simp] theorem State.raise_schedule (s : State) (r : Status) : (s.raise r).schedule = s.schedule := rfl

/-! ### count -/

@[simp] theorem State.count_regs (s : State) (c : Cnt) : (s.count c).regs = s.regs := rfl
@[simp] theorem State.count_status (s : State) (c : Cnt) : (s.count c).status = s.status := rfl
@[simp] theorem State.count_scan (s : State) (c : Cnt) : (s.count c).scan = s.scan := rfl
@[simp] theorem State.count_dp (s : State) (c : Cnt) : (s.count c).dp = s.dp := rfl
@[simp] theorem State.count_counters (s : State) (c : Cnt) : (s.count c).counters = Counters.addTo s.counters c 1 := rfl
@[simp] theorem State.count_cache (s : State) (c : Cnt) : (s.count c).cache = s.cache := rfl
@[simp] theorem State.count_tracks (s : State) (c : Cnt) : (s.count c).tracks = s.tracks := rfl
@[simp] theorem State.count_fifo (s : State) (c : Cnt) : (s.count c).fifo = s.fifo := rfl
@[simp] theorem State.count_ram (s : State) (c : Cnt) : (s.count c).ram = s.ram := rfl
@[simp] theorem State.count_mag (s : State) (c : Cnt) : (s.count c).mag = s.mag := rfl
@[simp] theorem State.count_rsp (s : State) (c : Cnt) : (s.count c).rsp = s.rsp := rfl
@[simp] theorem State.count_schedule (s : State) (c : Cnt) : (s.count c).schedule = s.schedule := rfl

/-! ### writeSample -/

@[simp] theorem State.writeSample_regs (s : State) (a : Nat) (v : Byte) : (s.writeSample a v).regs = s.regs := rfl
@[simp] theorem State.writeSample_status (s : State) (a : Nat) (v : Byte) : (s.writeSample a v).status = s.status := rfl
@[simp] theorem State.writeSample_scan (s : State) (a : Nat) (v : Byte) : (s.writeSample a v).scan = s.scan := rfl
@[simp] theorem State.writeSample_dp (s : State) (a : Nat) (v : Byte) : (s.writeSample a v).dp = s.dp := rfl
@[simp] theorem State.writeSample_counters (s : State) (a : Nat) (v : Byte) : (s.writeSample a v).counters = s.counters := rfl
@[simp] theorem State.writeSample_cache (s : State) (a : Nat) (v : Byte) : (s.writeSample a v).cache = s.cache := rfl
@[simp] theorem State.writeSample_tracks (s : State) (a : Nat) (v : Byte) : (s.writeSample a v).tracks = s.tracks := rfl
@[simp] theorem State.writeSample_fifo (s : State) (a : Nat) (v : Byte) : (s.writeSample a v).fifo = s.fifo := rfl
@[simp] theorem State.writeSample_ram (s : State) (a : Nat) (v : Byte) : (s.writeSample a v).ram = Sparse.put s.ram a v := rfl
@[simp] theorem State.writeSample_mag (s : State) (a : Nat) (v : Byte) : (s.writeSample a v).mag = s.mag := rfl
@[simp] theorem State.writeSample_rsp (s : State) (a : Nat) (v : Byte) : (s.writeSample a v).rsp = s.rsp := rfl
@[simp] theorem State.writeSample_schedule (s : State) (a : Nat) (v : Byte) : (s.writeSample a v).schedule = s.schedule := rfl

/-! ### writeMags -/

@[simp] theorem State.writeMags_regs (s : State) (ms : List (BitVec 16)) : (s.writeMags ms).regs = s.regs := rfl
@[simp] theorem State.writeMags_status (s : State) (ms : List (BitVec 16)) : (s.writeMags ms).status = s.status := rfl
@[simp] theorem State.writeMags_scan (s : State) (ms : List (BitVec 16)) : (s.writeMags ms).scan = s.scan := rfl
@[simp] theorem State.writeMags_dp (s : State) (ms : List (BitVec 16)) : (s.writeMags ms).dp = s.dp := rfl
@[simp] theorem State.writeMags_counters (s : State) (ms : List (BitVec 16)) : (s.writeMags ms).counters = s.counters := rfl
@[simp] theorem State.writeMags_cache (s : State) (ms : List (BitVec 16)) : (s.writeMags ms).cache = s.cache := rfl
@[simp] theorem State.writeMags_tracks (s : State) (ms : List (BitVec 16)) : (s.writeMags ms).tracks = s.tracks := rfl
@[simp] theorem State.writeMags_fifo (s : State) (ms : List (BitVec 16)) : (s.writeMags ms).fifo = s.fifo := rfl
@[simp] theorem State.writeMags_ram (s : State) (ms : List (BitVec 16)) : (s.writeMags ms).ram = s.ram := rfl
@[simp] theorem State.writeMags_mag (s : State) (ms : List (BitVec 16)) : (s.writeMags ms).mag = trimMag (ms ++ s.mag.drop ms.length) := rfl
@[simp] theorem State.writeMags_rsp (s : State) (ms : List (BitVec 16)) : (s.writeMags ms).rsp = s.rsp := rfl
@[simp] theorem State.writeMags_schedule (s : State) (ms : List (BitVec 16)) : (s.writeMags ms).schedule = s.schedule := rfl

/-! ### cacheInsert -/

@[simp] theorem State.cacheInsert_regs (s : State) (a : U32) (t : U64) : (s.cacheInsert a t).regs = s.regs := rfl
@[simp] theorem State.cacheInsert_status (s : State) (a : U32) (t : U64) : (s.cacheInsert a t).status = s.status := rfl
@[simp] theorem State.cacheInsert_scan (s : State) (a : U32) (t : U64) : (s.cacheInsert a t).scan = s.scan := rfl
@[simp] theorem State.cacheInsert_dp (s : State) (a : U32) (t : U64) : (s.cacheInsert a t).dp = s.dp := rfl
@[simp] theorem State.cacheInsert_counters (s : State) (a : U32) (t : U64) : (s.cacheInsert a t).counters = s.counters := rfl
@[simp] theorem State.cacheInsert_tracks (s : State) (a : U32) (t : U64) : (s.cacheInsert a t).tracks = s.tracks := rfl
@[simp] theorem State.cacheInsert_fifo (s : State) (a : U32) (t : U64) : (s.cacheInsert a t).fifo = s.fifo := rfl
@[simp] theorem State.cacheInsert_ram (s : State) (a : U32) (t : U64) : (s.cacheInsert a t).ram = s.ram := rfl
@[simp] theorem State.cacheInsert_mag (s : State) (a : U32) (t : U64) : (s.cacheInsert a t).mag = s.mag := rfl
@[simp] theorem State.cacheInsert_rsp (s : State) (a : U32) (t : U64) : (s.cacheInsert a t).rsp = s.rsp := rfl
@[simp] theorem State.cacheInsert_schedule (s : State) (a : U32) (t : U64) : (s.cacheInsert a t).schedule = s.schedule := rfl

/-! ### moveTo -/

@[simp] theorem State.moveTo_regs (s : State) (j : U32) (p : ScanState) : (s.moveTo j p).regs = s.regs := rfl
@[simp] theorem State.moveTo_status (s : State) (j : U32) (p : ScanState) : (s.moveTo j p).status = s.status := rfl
@[simp] theorem State.moveTo_scan (s : State) (j : U32) (p : ScanState) : (s.moveTo j p).scan = { s.scan with j := j, pst := p } := rfl
@[simp] theorem State.moveTo_dp (s : State) (j : U32) (p : ScanState) : (s.moveTo j p).dp = s.dp := rfl
@[simp] theorem State.moveTo_counters (s : State) (j : U32) (p : ScanState) : (s.moveTo j p).counters = s.counters := rfl
@[simp] theorem State.moveTo_cache (s : State) (j : U32) (p : ScanState) : (s.moveTo j p).cache = s.cache := rfl
@[simp] theorem State.moveTo_tracks (s : State) (j : U32) (p : ScanState) : (s.moveTo j p).tracks = s.tracks := rfl
@[simp] theorem State.moveTo_fifo (s : State) (j : U32) (p : ScanState) : (s.moveTo j p).fifo = s.fifo := rfl
@[simp] theorem State.moveTo_ram (s : State) (j : U32) (p : ScanState) : (s.moveTo j p).ram = s.ram := rfl
@[simp] theorem State.moveTo_mag (s : State) (j : U32) (p : ScanState) : (s.moveTo j p).mag = s.mag := rfl
@[simp] theorem State.moveTo_rsp (s : State) (j : U32) (p : ScanState) : (s.moveTo j p).rsp = s.rsp := rfl
@[simp] theorem State.moveTo_schedule (s : State) (j : U32) (p : ScanState) : (s.moveTo j p).schedule = s.schedule := rfl

/-! ### setShortFrame -/

@[simp] theorem State.setShortFrame_regs (s : State) (f : BitVec 56) : (s.setShortFrame f).regs = s.regs := rfl
@[simp] theorem State.setShortFrame_status (s : State) (f : BitVec 56) : (s.setShortFrame f).status = s.status := rfl
@[simp] theorem State.setShortFrame_scan (s : State) (f : BitVec 56) : (s.setShortFrame f).scan = s.scan := rfl
@[simp] theorem State.setShortFrame_counters (s : State) (f : BitVec 56) : (s.setShortFrame f).counters = s.counters := rfl
@[simp] theorem State.setShortFrame_cache (s : State) (f : BitVec 56) : (s.setShortFrame f).cache = s.cache := rfl
@[simp] theorem State.setShortFrame_tracks (s : State) (f : BitVec 56) : (s.setShortFrame f).tracks = s.tracks := rfl
@[simp] theorem State.setShortFrame_fifo (s : State) (f : BitVec 56) : (s.setShortFrame f).fifo = s.fifo := rfl
@[simp] theorem State.setShortFrame_ram (s : State) (f : BitVec 56) : (s.setShortFrame f).ram = s.ram := rfl
@[simp] theorem State.setShortFrame_mag (s : State) (f : BitVec 56) : (s.setShortFrame f).mag = s.mag := rfl
@[simp] theorem State.setShortFrame_rsp (s : State) (f : BitVec 56) : (s.setShortFrame f).rsp = s.rsp := rfl
@[simp] theorem State.setShortFrame_schedule (s : State) (f : BitVec 56) : (s.setShortFrame f).schedule = s.schedule := rfl

/-! ### setLongFrame -/

@[simp] theorem State.setLongFrame_regs (s : State) (f : BitVec 112) : (s.setLongFrame f).regs = s.regs := rfl
@[simp] theorem State.setLongFrame_status (s : State) (f : BitVec 112) : (s.setLongFrame f).status = s.status := rfl
@[simp] theorem State.setLongFrame_scan (s : State) (f : BitVec 112) : (s.setLongFrame f).scan = s.scan := rfl
@[simp] theorem State.setLongFrame_dp (s : State) (f : BitVec 112) : (s.setLongFrame f).dp = { s.dp with fr := f } := rfl
@[simp] theorem State.setLongFrame_counters (s : State) (f : BitVec 112) : (s.setLongFrame f).counters = s.counters := rfl
@[simp] theorem State.setLongFrame_cache (s : State) (f : BitVec 112) : (s.setLongFrame f).cache = s.cache := rfl
@[simp] theorem State.setLongFrame_tracks (s : State) (f : BitVec 112) : (s.setLongFrame f).tracks = s.tracks := rfl
@[simp] theorem State.setLongFrame_fifo (s : State) (f : BitVec 112) : (s.setLongFrame f).fifo = s.fifo := rfl
@[simp] theorem State.setLongFrame_ram (s : State) (f : BitVec 112) : (s.setLongFrame f).ram = s.ram := rfl
@[simp] theorem State.setLongFrame_mag (s : State) (f : BitVec 112) : (s.setLongFrame f).mag = s.mag := rfl
@[simp] theorem State.setLongFrame_rsp (s : State) (f : BitVec 112) : (s.setLongFrame f).rsp = s.rsp := rfl
@[simp] theorem State.setLongFrame_schedule (s : State) (f : BitVec 112) : (s.setLongFrame f).schedule = s.schedule := rfl

/-! ### advancePast -/

@[simp] theorem State.advancePast_regs (s : State) (f : Frame) : (s.advancePast f).regs = s.regs := rfl
@[simp] theorem State.advancePast_status (s : State) (f : Frame) : (s.advancePast f).status = s.status := rfl
@[simp] theorem State.advancePast_scan (s : State) (f : Frame) : (s.advancePast f).scan = { s.scan with j := s.scan.j + BitVec.ofNat 32 (16 + 2 * f.nbits), pst := .scanning } := rfl
@[simp] theorem State.advancePast_dp (s : State) (f : Frame) : (s.advancePast f).dp = s.dp := rfl
@[simp] theorem State.advancePast_counters (s : State) (f : Frame) : (s.advancePast f).counters = s.counters := rfl
@[simp] theorem State.advancePast_cache (s : State) (f : Frame) : (s.advancePast f).cache = s.cache := rfl
@[simp] theorem State.advancePast_tracks (s : State) (f : Frame) : (s.advancePast f).tracks = s.tracks := rfl
@[simp] theorem State.advancePast_fifo (s : State) (f : Frame) : (s.advancePast f).fifo = s.fifo := rfl
@[simp] theorem State.advancePast_ram (s : State) (f : Frame) : (s.advancePast f).ram = s.ram := rfl
@[simp] theorem State.advancePast_mag (s : State) (f : Frame) : (s.advancePast f).mag = s.mag := rfl
@[simp] theorem State.advancePast_rsp (s : State) (f : Frame) : (s.advancePast f).rsp = s.rsp := rfl
@[simp] theorem State.advancePast_schedule (s : State) (f : Frame) : (s.advancePast f).schedule = s.schedule := rfl

/-! ### cancelRun -/

@[simp] theorem State.cancelRun_regs (s : State) : (s.cancelRun).regs = s.regs := rfl
@[simp] theorem State.cancelRun_status (s : State) : (s.cancelRun).status = { s.status with cancelReq := false, cancelled := true, busy := false } := rfl
@[simp] theorem State.cancelRun_scan (s : State) : (s.cancelRun).scan = { s.scan with pst := .scanning } := rfl
@[simp] theorem State.cancelRun_dp (s : State) : (s.cancelRun).dp = s.dp := rfl
@[simp] theorem State.cancelRun_counters (s : State) : (s.cancelRun).counters = s.counters := rfl
@[simp] theorem State.cancelRun_cache (s : State) : (s.cancelRun).cache = s.cache := rfl
@[simp] theorem State.cancelRun_tracks (s : State) : (s.cancelRun).tracks = s.tracks := rfl
@[simp] theorem State.cancelRun_fifo (s : State) : (s.cancelRun).fifo = s.fifo := rfl
@[simp] theorem State.cancelRun_ram (s : State) : (s.cancelRun).ram = s.ram := rfl
@[simp] theorem State.cancelRun_mag (s : State) : (s.cancelRun).mag = s.mag := rfl
@[simp] theorem State.cancelRun_rsp (s : State) : (s.cancelRun).rsp = s.rsp := rfl
@[simp] theorem State.cancelRun_schedule (s : State) : (s.cancelRun).schedule = s.schedule := rfl

/-! ### loadWindow -/

@[simp] theorem State.loadWindow_regs (s : State) : (s.loadWindow).regs = s.regs := rfl
@[simp] theorem State.loadWindow_status (s : State) : (s.loadWindow).status = s.status := rfl
@[simp] theorem State.loadWindow_scan (s : State) : (s.loadWindow).scan = s.scan := rfl
@[simp] theorem State.loadWindow_counters (s : State) : (s.loadWindow).counters = s.counters := rfl
@[simp] theorem State.loadWindow_cache (s : State) : (s.loadWindow).cache = s.cache := rfl
@[simp] theorem State.loadWindow_tracks (s : State) : (s.loadWindow).tracks = s.tracks := rfl
@[simp] theorem State.loadWindow_fifo (s : State) : (s.loadWindow).fifo = s.fifo := rfl
@[simp] theorem State.loadWindow_ram (s : State) : (s.loadWindow).ram = s.ram := rfl
@[simp] theorem State.loadWindow_mag (s : State) : (s.loadWindow).mag = s.mag := rfl
@[simp] theorem State.loadWindow_rsp (s : State) : (s.loadWindow).rsp = s.rsp := rfl
@[simp] theorem State.loadWindow_schedule (s : State) : (s.loadWindow).schedule = s.schedule := rfl

/-! ### sliceStage -/

@[simp] theorem State.sliceStage_regs (s : State) : (s.sliceStage).regs = s.regs := rfl
@[simp] theorem State.sliceStage_status (s : State) : (s.sliceStage).status = s.status := rfl
@[simp] theorem State.sliceStage_scan (s : State) : (s.sliceStage).scan = s.scan := rfl
@[simp] theorem State.sliceStage_counters (s : State) : (s.sliceStage).counters = s.counters := rfl
@[simp] theorem State.sliceStage_cache (s : State) : (s.sliceStage).cache = s.cache := rfl
@[simp] theorem State.sliceStage_tracks (s : State) : (s.sliceStage).tracks = s.tracks := rfl
@[simp] theorem State.sliceStage_fifo (s : State) : (s.sliceStage).fifo = s.fifo := rfl
@[simp] theorem State.sliceStage_ram (s : State) : (s.sliceStage).ram = s.ram := rfl
@[simp] theorem State.sliceStage_mag (s : State) : (s.sliceStage).mag = s.mag := rfl
@[simp] theorem State.sliceStage_rsp (s : State) : (s.sliceStage).rsp = s.rsp := rfl
@[simp] theorem State.sliceStage_schedule (s : State) : (s.sliceStage).schedule = s.schedule := rfl

/-! ### packStage -/

@[simp] theorem State.packStage_regs (s : State) : (s.packStage).regs = s.regs := rfl
@[simp] theorem State.packStage_status (s : State) : (s.packStage).status = s.status := rfl
@[simp] theorem State.packStage_scan (s : State) : (s.packStage).scan = s.scan := rfl
@[simp] theorem State.packStage_counters (s : State) : (s.packStage).counters = s.counters := rfl
@[simp] theorem State.packStage_cache (s : State) : (s.packStage).cache = s.cache := rfl
@[simp] theorem State.packStage_tracks (s : State) : (s.packStage).tracks = s.tracks := rfl
@[simp] theorem State.packStage_fifo (s : State) : (s.packStage).fifo = s.fifo := rfl
@[simp] theorem State.packStage_ram (s : State) : (s.packStage).ram = s.ram := rfl
@[simp] theorem State.packStage_mag (s : State) : (s.packStage).mag = s.mag := rfl
@[simp] theorem State.packStage_rsp (s : State) : (s.packStage).rsp = s.rsp := rfl
@[simp] theorem State.packStage_schedule (s : State) : (s.packStage).schedule = s.schedule := rfl

/-! ### candidateFound -/

@[simp] theorem State.candidateFound_regs (s : State) : (s.candidateFound).regs = s.regs := rfl
@[simp] theorem State.candidateFound_status (s : State) : (s.candidateFound).status = s.status := rfl
@[simp] theorem State.candidateFound_scan (s : State) : (s.candidateFound).scan = { s.scan with pst := .candidateFound } := rfl
@[simp] theorem State.candidateFound_dp (s : State) : (s.candidateFound).dp = s.dp := rfl
@[simp] theorem State.candidateFound_counters (s : State) : (s.candidateFound).counters = Counters.addTo s.counters .preamble 1 := rfl
@[simp] theorem State.candidateFound_cache (s : State) : (s.candidateFound).cache = s.cache := rfl
@[simp] theorem State.candidateFound_tracks (s : State) : (s.candidateFound).tracks = s.tracks := rfl
@[simp] theorem State.candidateFound_fifo (s : State) : (s.candidateFound).fifo = s.fifo := rfl
@[simp] theorem State.candidateFound_ram (s : State) : (s.candidateFound).ram = s.ram := rfl
@[simp] theorem State.candidateFound_mag (s : State) : (s.candidateFound).mag = s.mag := rfl
@[simp] theorem State.candidateFound_rsp (s : State) : (s.candidateFound).rsp = s.rsp := rfl
@[simp] theorem State.candidateFound_schedule (s : State) : (s.candidateFound).schedule = s.schedule := rfl

/-! ### startProcess -/

@[simp] theorem State.startProcess_regs (s : State) (ms : List (BitVec 16)) (n : Nat) (t : U64) : (s.startProcess ms n t).regs = { s.regs with lastTime := t } := rfl
@[simp] theorem State.startProcess_status (s : State) (ms : List (BitVec 16)) (n : Nat) (t : U64) : (s.startProcess ms n t).status = ⟨decide (240 ≤ n), false, false, s.status.lastErr⟩ := rfl
@[simp] theorem State.startProcess_scan (s : State) (ms : List (BitVec 16)) (n : Nat) (t : U64) : (s.startProcess ms n t).scan = ⟨0#32, .scanning, BitVec.ofNat 32 n, t, 0#32⟩ := rfl
@[simp] theorem State.startProcess_dp (s : State) (ms : List (BitVec 16)) (n : Nat) (t : U64) : (s.startProcess ms n t).dp = s.dp := rfl
@[simp] theorem State.startProcess_counters (s : State) (ms : List (BitVec 16)) (n : Nat) (t : U64) : (s.startProcess ms n t).counters = s.counters := rfl
@[simp] theorem State.startProcess_cache (s : State) (ms : List (BitVec 16)) (n : Nat) (t : U64) : (s.startProcess ms n t).cache = s.cache := rfl
@[simp] theorem State.startProcess_tracks (s : State) (ms : List (BitVec 16)) (n : Nat) (t : U64) : (s.startProcess ms n t).tracks = s.tracks := rfl
@[simp] theorem State.startProcess_fifo (s : State) (ms : List (BitVec 16)) (n : Nat) (t : U64) : (s.startProcess ms n t).fifo = s.fifo := rfl
@[simp] theorem State.startProcess_ram (s : State) (ms : List (BitVec 16)) (n : Nat) (t : U64) : (s.startProcess ms n t).ram = s.ram := rfl
@[simp] theorem State.startProcess_mag (s : State) (ms : List (BitVec 16)) (n : Nat) (t : U64) : (s.startProcess ms n t).mag = (s.writeMags ms).mag := rfl
@[simp] theorem State.startProcess_rsp (s : State) (ms : List (BitVec 16)) (n : Nat) (t : U64) : (s.startProcess ms n t).rsp = s.rsp := rfl
@[simp] theorem State.startProcess_schedule (s : State) (ms : List (BitVec 16)) (n : Nat) (t : U64) : (s.startProcess ms n t).schedule = s.schedule := rfl

/-! ### resetKeepingRam -/

@[simp] theorem State.resetKeepingRam_regs (s : State) : (s.resetKeepingRam).regs = Regs.reset := rfl
@[simp] theorem State.resetKeepingRam_status (s : State) : (s.resetKeepingRam).status = StatusBits.reset := rfl
@[simp] theorem State.resetKeepingRam_scan (s : State) : (s.resetKeepingRam).scan = Scan.reset := rfl
@[simp] theorem State.resetKeepingRam_dp (s : State) : (s.resetKeepingRam).dp = Datapath.reset := rfl
@[simp] theorem State.resetKeepingRam_counters (s : State) : (s.resetKeepingRam).counters = Vector.replicate 24 0#32 := rfl
@[simp] theorem State.resetKeepingRam_cache (s : State) : (s.resetKeepingRam).cache = [] := rfl
@[simp] theorem State.resetKeepingRam_tracks (s : State) : (s.resetKeepingRam).tracks = [] := rfl
@[simp] theorem State.resetKeepingRam_fifo (s : State) : (s.resetKeepingRam).fifo = [] := rfl
@[simp] theorem State.resetKeepingRam_ram (s : State) : (s.resetKeepingRam).ram = s.ram := rfl
@[simp] theorem State.resetKeepingRam_mag (s : State) : (s.resetKeepingRam).mag = [] := rfl
@[simp] theorem State.resetKeepingRam_rsp (s : State) : (s.resetKeepingRam).rsp = Response.reset := rfl
@[simp] theorem State.resetKeepingRam_schedule (s : State) : (s.resetKeepingRam).schedule = s.schedule := rfl

end Sys2Proof.Machine
end

