-- ==== Sys2Proof/Laws/Ops.lean ====
section
/-! SUPPORT. What each shared operation can do, said once: the fields it leaves, the value of every counter, and the cases
of the conditional ones. -/

namespace Sys2Proof.Machine

/-! ### Counters -/

theorem Cnt.index_inj {c d : Cnt} (h : c.index = d.index) : c = d := by
  cases c <;> cases d <;> first | rfl | exact absurd h (by decide)

/-- A counter after an addition. -/
theorem Counters.value_addTo (cs : Counters) (c d : Cnt) (k : Nat) :
    Counters.value (Counters.addTo cs c k) d =
      if c = d then Counters.value cs d + BitVec.ofNat 32 k else Counters.value cs d := by
  by_cases h : c = d
  · subst h; simp [Counters.value, Counters.addTo]
  · have hi : (c.index : Nat) ≠ d.index := fun e => h (Cnt.index_inj (Fin.ext e))
    simp [Counters.value, Counters.addTo, h, Vector.getElem_set_ne _ _ hi]

theorem State.count_value (s : State) (c d : Cnt) :
    Counters.value (s.count c).counters d =
      if c = d then Counters.value s.counters d + 1 else Counters.value s.counters d :=
  Counters.value_addTo s.counters c d 1

@[simp] theorem State.countAll_nil (s : State) : s.countAll [] = s := rfl
@[simp] theorem State.countAll_cons (s : State) (c : Cnt) (cs : List Cnt) :
    s.countAll (c :: cs) = (s.count c).countAll cs := rfl

/-- A counter after a list of increments. -/
theorem State.countAll_value (s : State) (cs : List Cnt) (d : Cnt) :
    Counters.value (s.countAll cs).counters d = Counters.value s.counters d + BitVec.ofNat 32 (cs.count d) := by
  induction cs generalizing s with
  | nil => simp
  | cons c cs ih =>
    rw [State.countAll_cons, ih, State.count_value, List.count_cons]
    by_cases h : c = d
    · subst h; simp [BitVec.ofNat_add, BitVec.add_assoc, BitVec.add_comm]
    · simp [h]

/-! ### countAll -/

@[simp] theorem State.countAll_regs (s : State) (cs : List Cnt) : (s.countAll cs).regs = s.regs := by
  induction cs generalizing s with
  | nil => rfl
  | cons c cs ih => simp [ih]

@[simp] theorem State.countAll_status (s : State) (cs : List Cnt) : (s.countAll cs).status = s.status := by
  induction cs generalizing s with
  | nil => rfl
  | cons c cs ih => simp [ih]

@[simp] theorem State.countAll_scan (s : State) (cs : List Cnt) : (s.countAll cs).scan = s.scan := by
  induction cs generalizing s with
  | nil => rfl
  | cons c cs ih => simp [ih]

@[simp] theorem State.countAll_dp (s : State) (cs : List Cnt) : (s.countAll cs).dp = s.dp := by
  induction cs generalizing s with
  | nil => rfl
  | cons c cs ih => simp [ih]

@[simp] theorem State.countAll_cache (s : State) (cs : List Cnt) : (s.countAll cs).cache = s.cache := by
  induction cs generalizing s with
  | nil => rfl
  | cons c cs ih => simp [ih]

@[simp] theorem State.countAll_tracks (s : State) (cs : List Cnt) : (s.countAll cs).tracks = s.tracks := by
  induction cs generalizing s with
  | nil => rfl
  | cons c cs ih => simp [ih]

@[simp] theorem State.countAll_fifo (s : State) (cs : List Cnt) : (s.countAll cs).fifo = s.fifo := by
  induction cs generalizing s with
  | nil => rfl
  | cons c cs ih => simp [ih]

@[simp] theorem State.countAll_ram (s : State) (cs : List Cnt) : (s.countAll cs).ram = s.ram := by
  induction cs generalizing s with
  | nil => rfl
  | cons c cs ih => simp [ih]

@[simp] theorem State.countAll_mag (s : State) (cs : List Cnt) : (s.countAll cs).mag = s.mag := by
  induction cs generalizing s with
  | nil => rfl
  | cons c cs ih => simp [ih]

@[simp] theorem State.countAll_rsp (s : State) (cs : List Cnt) : (s.countAll cs).rsp = s.rsp := by
  induction cs generalizing s with
  | nil => rfl
  | cons c cs ih => simp [ih]

@[simp] theorem State.countAll_schedule (s : State) (cs : List Cnt) : (s.countAll cs).schedule = s.schedule := by
  induction cs generalizing s with
  | nil => rfl
  | cons c cs ih => simp [ih]

/-! ### fifoPush -/

@[simp] theorem State.fifoPush_regs (s : State) (m : Message) : (s.fifoPush m).regs = s.regs := by
  unfold State.fifoPush; split <;> rfl

@[simp] theorem State.fifoPush_status (s : State) (m : Message) : (s.fifoPush m).status = s.status := by
  unfold State.fifoPush; split <;> rfl

@[simp] theorem State.fifoPush_scan (s : State) (m : Message) : (s.fifoPush m).scan = s.scan := by
  unfold State.fifoPush; split <;> rfl

@[simp] theorem State.fifoPush_dp (s : State) (m : Message) : (s.fifoPush m).dp = s.dp := by
  unfold State.fifoPush; split <;> rfl

@[simp] theorem State.fifoPush_cache (s : State) (m : Message) : (s.fifoPush m).cache = s.cache := by
  unfold State.fifoPush; split <;> rfl

@[simp] theorem State.fifoPush_tracks (s : State) (m : Message) : (s.fifoPush m).tracks = s.tracks := by
  unfold State.fifoPush; split <;> rfl

@[simp] theorem State.fifoPush_ram (s : State) (m : Message) : (s.fifoPush m).ram = s.ram := by
  unfold State.fifoPush; split <;> rfl

@[simp] theorem State.fifoPush_mag (s : State) (m : Message) : (s.fifoPush m).mag = s.mag := by
  unfold State.fifoPush; split <;> rfl

@[simp] theorem State.fifoPush_rsp (s : State) (m : Message) : (s.fifoPush m).rsp = s.rsp := by
  unfold State.fifoPush; split <;> rfl

@[simp] theorem State.fifoPush_schedule (s : State) (m : Message) : (s.fifoPush m).schedule = s.schedule := by
  unfold State.fifoPush; split <;> rfl

/-- FIFO_PUSH either appends the record or counts the overflow. -/
theorem State.fifoPush_cases (s : State) (m : Message) :
    (s.fifo.length < Config.MSG_FIFO_DEPTH ∧ (s.fifoPush m).fifo = s.fifo ++ [m] ∧ (s.fifoPush m).counters = s.counters) ∨
    (Config.MSG_FIFO_DEPTH ≤ s.fifo.length ∧ (s.fifoPush m).fifo = s.fifo ∧
      (s.fifoPush m).counters = Counters.addTo s.counters .fifoOverflow 1) := by
  unfold State.fifoPush
  split
  · next h => exact .inl ⟨h, rfl, rfl⟩
  · next h => exact .inr ⟨Nat.le_of_not_lt h, rfl, rfl⟩

/-! ### finish -/

@[simp] theorem State.finish_regs (s : State) : (s.finish).regs = s.regs := by
  unfold State.finish; split <;> rfl

@[simp] theorem State.finish_dp (s : State) : (s.finish).dp = s.dp := by
  unfold State.finish; split <;> rfl

@[simp] theorem State.finish_counters (s : State) : (s.finish).counters = s.counters := by
  unfold State.finish; split <;> rfl

@[simp] theorem State.finish_cache (s : State) : (s.finish).cache = s.cache := by
  unfold State.finish; split <;> rfl

@[simp] theorem State.finish_tracks (s : State) : (s.finish).tracks = s.tracks := by
  unfold State.finish; split <;> rfl

@[simp] theorem State.finish_fifo (s : State) : (s.finish).fifo = s.fifo := by
  unfold State.finish; split <;> rfl

@[simp] theorem State.finish_ram (s : State) : (s.finish).ram = s.ram := by
  unfold State.finish; split <;> rfl

@[simp] theorem State.finish_mag (s : State) : (s.finish).mag = s.mag := by
  unfold State.finish; split <;> rfl

@[simp] theorem State.finish_rsp (s : State) : (s.finish).rsp = s.rsp := by
  unfold State.finish; split <;> rfl

@[simp] theorem State.finish_schedule (s : State) : (s.finish).schedule = s.schedule := by
  unfold State.finish; split <;> rfl

/-- The end of a scan step: J stays, and the run goes on exactly when the window at J still fits. -/
theorem State.finish_cases (s : State) :
    (s.scan.n.toNat < s.scan.j.toNat + 240 ∧ s.finish.scan = { s.scan with pst := .scanning } ∧
      s.finish.status = { s.status with busy := false }) ∨
    (s.scan.j.toNat + 240 ≤ s.scan.n.toNat ∧ s.finish = s) := by
  unfold State.finish
  split
  · next h => exact .inl ⟨h, rfl, rfl⟩
  · next h => exact .inr ⟨Nat.le_of_not_lt h, rfl⟩

/-! ### afterReject -/

@[simp] theorem State.afterReject_regs (s : State) : (s.afterReject).regs = s.regs := by
  unfold State.afterReject; split <;> simp

@[simp] theorem State.afterReject_dp (s : State) : (s.afterReject).dp = s.dp := by
  unfold State.afterReject; split <;> simp

@[simp] theorem State.afterReject_counters (s : State) : (s.afterReject).counters = s.counters := by
  unfold State.afterReject; split <;> simp

@[simp] theorem State.afterReject_cache (s : State) : (s.afterReject).cache = s.cache := by
  unfold State.afterReject; split <;> simp

@[simp] theorem State.afterReject_tracks (s : State) : (s.afterReject).tracks = s.tracks := by
  unfold State.afterReject; split <;> simp

@[simp] theorem State.afterReject_fifo (s : State) : (s.afterReject).fifo = s.fifo := by
  unfold State.afterReject; split <;> simp

@[simp] theorem State.afterReject_ram (s : State) : (s.afterReject).ram = s.ram := by
  unfold State.afterReject; split <;> simp

@[simp] theorem State.afterReject_mag (s : State) : (s.afterReject).mag = s.mag := by
  unfold State.afterReject; split <;> simp

@[simp] theorem State.afterReject_rsp (s : State) : (s.afterReject).rsp = s.rsp := by
  unfold State.afterReject; split <;> simp

@[simp] theorem State.afterReject_schedule (s : State) : (s.afterReject).schedule = s.schedule := by
  unfold State.afterReject; split <;> simp

/-- What follows a rejected attempt: a retry at the same offset, or the next offset. -/
theorem State.afterReject_cases (s : State) :
    (s.scan.pst = .candidateFound ∧ s.regs.phaseEn = true ∧ s.afterReject = (s.moveTo s.scan.j .correcting).finish) ∨
    (¬(s.scan.pst = .candidateFound ∧ s.regs.phaseEn = true) ∧
      s.afterReject = (s.moveTo (s.scan.j + 1) .scanning).finish) := by
  unfold State.afterReject
  split
  · next h => exact .inl ⟨h.1, h.2, rfl⟩
  · next h => exact .inr ⟨h, rfl⟩

/-! ### reject -/

@[simp] theorem State.reject_regs (s : State) (c : Cnt) : (s.reject c).regs = s.regs := by
  simp [State.reject]

@[simp] theorem State.reject_dp (s : State) (c : Cnt) : (s.reject c).dp = s.dp := by
  simp [State.reject]

@[simp] theorem State.reject_cache (s : State) (c : Cnt) : (s.reject c).cache = s.cache := by
  simp [State.reject]

@[simp] theorem State.reject_tracks (s : State) (c : Cnt) : (s.reject c).tracks = s.tracks := by
  simp [State.reject]

@[simp] theorem State.reject_fifo (s : State) (c : Cnt) : (s.reject c).fifo = s.fifo := by
  simp [State.reject]

@[simp] theorem State.reject_ram (s : State) (c : Cnt) : (s.reject c).ram = s.ram := by
  simp [State.reject]

@[simp] theorem State.reject_mag (s : State) (c : Cnt) : (s.reject c).mag = s.mag := by
  simp [State.reject]

@[simp] theorem State.reject_rsp (s : State) (c : Cnt) : (s.reject c).rsp = s.rsp := by
  simp [State.reject]

@[simp] theorem State.reject_schedule (s : State) (c : Cnt) : (s.reject c).schedule = s.schedule := by
  simp [State.reject]

/-- A rejection counts its reason once and nothing else. -/
@[simp] theorem State.reject_counters (s : State) (c : Cnt) :
    (s.reject c).counters = Counters.addTo s.counters c 1 := by
  unfold State.reject State.afterReject State.finish
  split <;> split <;> rfl

/-! ### putTrack -/

@[simp] theorem State.putTrack_regs (s : State) (i : Nat) (u : Track × List Cnt) : (s.putTrack i u).regs = s.regs := by
  simp [State.putTrack]

@[simp] theorem State.putTrack_status (s : State) (i : Nat) (u : Track × List Cnt) : (s.putTrack i u).status = s.status := by
  simp [State.putTrack]

@[simp] theorem State.putTrack_scan (s : State) (i : Nat) (u : Track × List Cnt) : (s.putTrack i u).scan = s.scan := by
  simp [State.putTrack]

@[simp] theorem State.putTrack_dp (s : State) (i : Nat) (u : Track × List Cnt) : (s.putTrack i u).dp = s.dp := by
  simp [State.putTrack]

@[simp] theorem State.putTrack_cache (s : State) (i : Nat) (u : Track × List Cnt) : (s.putTrack i u).cache = s.cache := by
  simp [State.putTrack]

@[simp] theorem State.putTrack_fifo (s : State) (i : Nat) (u : Track × List Cnt) : (s.putTrack i u).fifo = s.fifo := by
  simp [State.putTrack]

@[simp] theorem State.putTrack_ram (s : State) (i : Nat) (u : Track × List Cnt) : (s.putTrack i u).ram = s.ram := by
  simp [State.putTrack]

@[simp] theorem State.putTrack_mag (s : State) (i : Nat) (u : Track × List Cnt) : (s.putTrack i u).mag = s.mag := by
  simp [State.putTrack]

@[simp] theorem State.putTrack_rsp (s : State) (i : Nat) (u : Track × List Cnt) : (s.putTrack i u).rsp = s.rsp := by
  simp [State.putTrack]

@[simp] theorem State.putTrack_schedule (s : State) (i : Nat) (u : Track × List Cnt) : (s.putTrack i u).schedule = s.schedule := by
  simp [State.putTrack]

@[simp] theorem State.putTrack_tracks (s : State) (i : Nat) (u : Track × List Cnt) :
    (s.putTrack i u).tracks = Sparse.put s.tracks i u.1 := by
  simp [State.putTrack]

/-! ### trackUpdate -/

@[simp] theorem State.trackUpdate_regs (s : State) (m : Message) : (s.trackUpdate m).regs = s.regs := by
  unfold State.trackUpdate; split <;> [skip; split] <;> simp

@[simp] theorem State.trackUpdate_status (s : State) (m : Message) : (s.trackUpdate m).status = s.status := by
  unfold State.trackUpdate; split <;> [skip; split] <;> simp

@[simp] theorem State.trackUpdate_scan (s : State) (m : Message) : (s.trackUpdate m).scan = s.scan := by
  unfold State.trackUpdate; split <;> [skip; split] <;> simp

@[simp] theorem State.trackUpdate_dp (s : State) (m : Message) : (s.trackUpdate m).dp = s.dp := by
  unfold State.trackUpdate; split <;> [skip; split] <;> simp

@[simp] theorem State.trackUpdate_cache (s : State) (m : Message) : (s.trackUpdate m).cache = s.cache := by
  unfold State.trackUpdate; split <;> [skip; split] <;> simp

@[simp] theorem State.trackUpdate_fifo (s : State) (m : Message) : (s.trackUpdate m).fifo = s.fifo := by
  unfold State.trackUpdate; split <;> [skip; split] <;> simp

@[simp] theorem State.trackUpdate_ram (s : State) (m : Message) : (s.trackUpdate m).ram = s.ram := by
  unfold State.trackUpdate; split <;> [skip; split] <;> simp

@[simp] theorem State.trackUpdate_mag (s : State) (m : Message) : (s.trackUpdate m).mag = s.mag := by
  unfold State.trackUpdate; split <;> [skip; split] <;> simp

@[simp] theorem State.trackUpdate_rsp (s : State) (m : Message) : (s.trackUpdate m).rsp = s.rsp := by
  unfold State.trackUpdate; split <;> [skip; split] <;> simp

@[simp] theorem State.trackUpdate_schedule (s : State) (m : Message) : (s.trackUpdate m).schedule = s.schedule := by
  unfold State.trackUpdate; split <;> [skip; split] <;> simp

/-- TRACK_UPDATE updates the track of the address, or makes one in the lowest free slot, or counts a full table. -/
theorem State.trackUpdate_cases (s : State) (m : Message) :
    (∃ i t, findTrack s.tracks m.icao = some (i, t) ∧
      s.trackUpdate m = s.putTrack i (updateTrack s.cprEnv t m.payload)) ∨
    (findTrack s.tracks m.icao = none ∧ ∃ i, freeSlot s.tracks = some i ∧
      s.trackUpdate m = s.putTrack i (updateTrack s.cprEnv (newTrack m.icao s.scan.now) m.payload)) ∨
    (findTrack s.tracks m.icao = none ∧ freeSlot s.tracks = none ∧ s.trackUpdate m = s.count .trackFull) := by
  unfold State.trackUpdate
  split
  · next i t h => exact .inl ⟨i, t, h, rfl⟩
  · next h =>
    split
    · next i hi => exact .inr (.inl ⟨h, i, hi, rfl⟩)
    · next hi => exact .inr (.inr ⟨h, hi, rfl⟩)

/-! ### countAccepted -/

@[simp] theorem State.countAccepted_regs (s : State) : (s.countAccepted).regs = s.regs := by
  unfold State.countAccepted; split <;> rfl

@[simp] theorem State.countAccepted_status (s : State) : (s.countAccepted).status = s.status := by
  unfold State.countAccepted; split <;> rfl

@[simp] theorem State.countAccepted_dp (s : State) : (s.countAccepted).dp = s.dp := by
  unfold State.countAccepted; split <;> rfl

@[simp] theorem State.countAccepted_cache (s : State) : (s.countAccepted).cache = s.cache := by
  unfold State.countAccepted; split <;> rfl

@[simp] theorem State.countAccepted_tracks (s : State) : (s.countAccepted).tracks = s.tracks := by
  unfold State.countAccepted; split <;> rfl

@[simp] theorem State.countAccepted_fifo (s : State) : (s.countAccepted).fifo = s.fifo := by
  unfold State.countAccepted; split <;> rfl

@[simp] theorem State.countAccepted_ram (s : State) : (s.countAccepted).ram = s.ram := by
  unfold State.countAccepted; split <;> rfl

@[simp] theorem State.countAccepted_mag (s : State) : (s.countAccepted).mag = s.mag := by
  unfold State.countAccepted; split <;> rfl

@[simp] theorem State.countAccepted_rsp (s : State) : (s.countAccepted).rsp = s.rsp := by
  unfold State.countAccepted; split <;> rfl

@[simp] theorem State.countAccepted_schedule (s : State) : (s.countAccepted).schedule = s.schedule := by
  unfold State.countAccepted; split <;> rfl

@[simp] theorem State.countAccepted_scan (s : State) :
    s.countAccepted.scan = { s.scan with acc := s.scan.acc + 1 } := by
  unfold State.countAccepted; split <;> rfl

/-! ### accept -/

@[simp] theorem State.accept_regs (s : State) (m : Message) : (s.accept m).regs = s.regs := by
  simp [State.accept]

@[simp] theorem State.accept_dp (s : State) (m : Message) : (s.accept m).dp = s.dp := by
  simp [State.accept]

@[simp] theorem State.accept_cache (s : State) (m : Message) : (s.accept m).cache = s.cache := by
  simp [State.accept]

@[simp] theorem State.accept_ram (s : State) (m : Message) : (s.accept m).ram = s.ram := by
  simp [State.accept]

@[simp] theorem State.accept_mag (s : State) (m : Message) : (s.accept m).mag = s.mag := by
  simp [State.accept]

@[simp] theorem State.accept_rsp (s : State) (m : Message) : (s.accept m).rsp = s.rsp := by
  simp [State.accept]

@[simp] theorem State.accept_schedule (s : State) (m : Message) : (s.accept m).schedule = s.schedule := by
  simp [State.accept]

/-- The scan after an acceptance: J advances past the message, and the run ends when no window fits any more. -/
theorem State.accept_scan (s : State) (m : Message) :
    (s.accept m).scan =
      { s.scan with
        acc := s.scan.acc + 1
        j := s.scan.j + BitVec.ofNat 32 (16 + 2 * m.frame.nbits)
        pst := .scanning } := by
  unfold State.accept
  rcases State.finish_cases ((((s.countAccepted).fifoPush m).trackUpdate m).advancePast m.frame) with
    ⟨_, h, _⟩ | ⟨_, h⟩ <;> simp [h]

/-- The record an acceptance appends, unless the FIFO is full. -/
theorem State.accept_fifo (s : State) (m : Message) :
    (s.accept m).fifo = if s.fifo.length < Config.MSG_FIFO_DEPTH then s.fifo ++ [m] else s.fifo := by
  simp only [State.accept, State.finish_fifo, State.advancePast_fifo, State.trackUpdate_fifo]
  unfold State.fifoPush
  simp only [State.countAccepted_fifo]
  split <;> simp

/-! ### Commands -/

/-- A command that is not accepted while busy either raises ERR_BUSY or runs. -/
theorem whenIdle_cases (s : State) (r : Result) :
    (s.status.busy = true ∧ whenIdle s r = .next (s.raise .errBusy)) ∨ (s.status.busy = false ∧ whenIdle s r = r) := by
  unfold whenIdle cmdError
  cases s.status.busy <;> simp

end Sys2Proof.Machine
end

