-- ==== Sys2Proof/Laws/Effects.lean ====
section
/-! SUPPORT. The effects of Safety.lean hold of the shared operations: everything an acceptance and a rejection can do, said
once. -/

namespace Sys2Proof.Machine

/-- The status after the end of a scan step: the run goes on exactly when the window at J still fits. -/
theorem State.finish_busy (s : State) :
    s.finish.status.busy = (s.status.busy && decide (s.scan.j.toNat + 240 ≤ s.scan.n.toNat)) := by
  rcases s.finish_cases with ⟨h, _, h2⟩ | ⟨h, h2⟩
  · have : ¬s.scan.j.toNat + 240 ≤ s.scan.n.toNat := by omega
    simp [h2, this]
  · simp [h2, h]

theorem State.finish_otherStatus (s : State) :
    s.finish.status.cancelReq = s.status.cancelReq ∧ s.finish.status.cancelled = s.status.cancelled ∧
      s.finish.status.lastErr = s.status.lastErr := by
  rcases s.finish_cases with ⟨_, _, h2⟩ | ⟨_, h2⟩ <;> simp [h2]

theorem State.finish_scan (s : State) :
    s.finish.scan =
      { s.scan with pst := if s.scan.j.toNat + 240 ≤ s.scan.n.toNat then s.scan.pst else .scanning } := by
  rcases s.finish_cases with ⟨h, h1, _⟩ | ⟨h, h2⟩
  · have : ¬s.scan.j.toNat + 240 ≤ s.scan.n.toNat := by omega
    simp [h1, this]
  · simp [h2, h]

/-- A rejection has the effect the rules give it. -/
theorem State.reject_effect (s : State) (c : Cnt) : RejectEffect s (s.reject c) c := by
  refine ⟨by simp, fun a => by simp [State.readSample], by simp, by simp, by simp, by simp, by simp, by simp, by simp,
    ?_, ?_, fun d => ?_, fun h1 h2 => ?_, fun h => ?_, ?_⟩
  · rcases (s.count c).afterReject_cases with ⟨_, _, h⟩ | ⟨_, h⟩ <;>
      · simp only [State.reject, h]; exact State.finish_otherStatus _
  · rcases (s.count c).afterReject_cases with ⟨_, _, h⟩ | ⟨_, h⟩ <;> simp [State.reject, h, State.finish_scan]
  · rw [CountedBy, State.reject_counters, Counters.value_addTo]
    by_cases h : d = c
    · subst h; simp
    · simp [h, Ne.symm h]
  · rcases (s.count c).afterReject_cases with ⟨_, _, h⟩ | ⟨h0, h⟩
    · simp [State.reject, h, State.finish_scan]; rfl
    · exact absurd ⟨h1, h2⟩ h0
  · rcases (s.count c).afterReject_cases with ⟨h1, h2, _⟩ | ⟨_, h0⟩
    · exact absurd ⟨h1, h2⟩ h
    · simp [State.reject, h0, State.finish_scan]
  · rcases (s.count c).afterReject_cases with ⟨_, _, h⟩ | ⟨_, h⟩ <;>
      · simp [State.reject, h, State.finish_busy, State.finish_scan]; try rfl

theorem acceptPosition_counts (env : CprEnv) (a : Track) (p : Position) (src : PosSource) :
    ∀ c ∈ (acceptPosition env a p src).counts, c ∈ cprCounters := by
  unfold acceptPosition
  split <;> cases src <;> simp [PosSource.counter, cprCounters]

theorem tryPosition_counts (env : CprEnv) (a : Track) (p : Position) (src : PosSource) (surface : Bool) :
    ∀ c ∈ (tryPosition env a p src surface).counts, c ∈ cprCounters := by
  unfold tryPosition
  cases plausible env a p surface with
  | ok => exact acceptPosition_counts env a p src
  | rejRange => simp [afterChecks, cprCounters]
  | rejSpeed => simp [afterChecks, cprCounters]

theorem afterLocal_counts (env : CprEnv) (a : Track) (src : PosSource) (surface : Bool) (r : CprResult) :
    ∀ c ∈ (afterLocal env a src surface r).counts, c ∈ cprCounters := by
  cases r with
  | ok p => exact tryPosition_counts env a p src surface
  | badLat => simp [afterLocal, cprCounters]
  | zone => simp [afterLocal]
  | far => simp [afterLocal, cprCounters]

theorem afterGlobal_counts (env : CprEnv) (a : Track) (surface : Bool) (r : CprResult) :
    ∀ c ∈ (afterGlobal env a surface r).counts, c ∈ cprCounters := by
  cases r with
  | ok p => exact tryPosition_counts env a p .global surface
  | badLat => simp [afterGlobal, cprCounters]
  | zone => simp [afterGlobal, cprCounters]
  | far => simp [afterGlobal]

/-- The local decode is not attempted, or ends as its result says. -/
theorem localStep_cases (env : CprEnv) (a : Track) (lat lon : BitVec 17) (odd surface : Bool) :
    localStep env a lat lon odd surface = ⟨a, [], false⟩ ∨
    ∃ src r, localStep env a lat lon odd surface = afterLocal env a src surface r := by
  unfold localStep
  cases localReference env a surface with
  | none => exact .inl rfl
  | some q => exact .inr ⟨q.2, _, rfl⟩

/-- The global decode is not attempted, or ends as its result says. -/
theorem globalStep_cases (env : CprEnv) (a : Track) (odd surface : Bool) :
    globalStep env a odd surface = ⟨a, [], true⟩ ∨
    ∃ r, globalStep env a odd surface = afterGlobal env a surface r := by
  unfold globalStep
  cases a.cprEven with
  | none => exact .inl rfl
  | some e =>
    cases a.cprOdd with
    | none => exact .inl rfl
    | some o =>
      simp only
      cases mayPair env.now surface (if odd = true then e else o) with
      | false => exact .inl rfl
      | true =>
        cases globalReference env a surface with
        | none => exact .inl rfl
        | some ref => exact .inr ⟨_, rfl⟩

theorem localStep_counts (env : CprEnv) (a : Track) (lat lon : BitVec 17) (odd surface : Bool) :
    ∀ c ∈ (localStep env a lat lon odd surface).counts, c ∈ cprCounters := by
  rcases localStep_cases env a lat lon odd surface with h | ⟨src, r, h⟩
  · simp [h]
  · rw [h]; exact afterLocal_counts env a src surface r

theorem globalStep_counts (env : CprEnv) (a : Track) (odd surface : Bool) :
    ∀ c ∈ (globalStep env a odd surface).counts, c ∈ cprCounters := by
  rcases globalStep_cases env a odd surface with h | ⟨r, h⟩
  · simp [h]
  · rw [h]; exact afterGlobal_counts env a surface r

/-- CPR_UPDATE increments counters of its own only. -/
theorem cprUpdate_counts (env : CprEnv) (a : Track) (lat lon : BitVec 17) (odd surface : Bool) :
    ∀ c ∈ (cprUpdate env a lat lon odd surface).2, c ∈ cprCounters := by
  unfold cprUpdate
  simp only
  split
  · exact localStep_counts env _ lat lon odd surface
  · intro c hc
    rcases List.mem_append.1 hc with hc | hc
    · exact localStep_counts env _ lat lon odd surface c hc
    · exact globalStep_counts env _ odd surface c hc

/-- A track's update increments counters of CPR_UPDATE only, and none for a message without a position. -/
theorem updateTrack_counts (env : CprEnv) (a : Track) (p : Payload) :
    (∀ c ∈ (updateTrack env a p).2, c ∈ cprCounters) ∧ (p.cprLat = none → (updateTrack env a p).2 = []) := by
  unfold updateTrack
  simp only
  split
  · simp
  · next h => exact ⟨cprUpdate_counts _ _ _ _ _ _, fun h' => by simp [h'] at h⟩

/-- SCALAR_UPDATE of the model is that of the rules. -/
theorem scalarUpdate_eq (a : Track) (p : Payload) (now : U64) : scalarUpdate a p now = scalarsUpdated a p now := by
  have h : ∀ {α : Type} (x y : Option α), x.or y = if x.isSome then x else y := fun x y => by cases x <;> rfl
  simp only [scalarUpdate, scalarsUpdated, h]

/-- The update of a track by a message with a position is SCALAR_UPDATE and then CPR_UPDATE. -/
theorem updateTrack_position (s : State) (a : Track) (p : Payload) (lat : BitVec 17) (h : p.cprLat = some lat) :
    updateTrack s.cprEnv a p = positionUpdate s a p lat := by
  unfold updateTrack positionUpdate
  rw [h, scalarUpdate_eq]
  rfl

/-- The update of a track by a message without a position is SCALAR_UPDATE. -/
theorem updateTrack_noPosition (s : State) (a : Track) (p : Payload) (h : p.cprLat = none) :
    updateTrack s.cprEnv a p = (scalarsUpdated a p s.scan.now, []) := by
  unfold updateTrack
  rw [h, scalarUpdate_eq]
  rfl

theorem createdTrack_eq (a : U24) (now : U64) : newTrack a now = createdTrack a now := rfl

/-- Where the message's address has a slot, the counters of its update are those of that slot's track. -/
theorem positionCounts_found (s : State) (m : Message) (i : Nat) (a : Track)
    (h : findTrack s.tracks m.icao = some (i, a)) : (updateTrack s.cprEnv a m.payload).2 = positionCounts s m := by
  cases hl : m.payload.cprLat with
  | none => rw [updateTrack_noPosition s a _ hl]; simp [positionCounts, hl]
  | some lat => rw [updateTrack_position s a _ lat hl]; simp [positionCounts, hl, h]

/-- Where it has none and a slot is free, they are those of a new track. -/
theorem positionCounts_created (s : State) (m : Message) (i : Nat) (h : findTrack s.tracks m.icao = none)
    (hi : freeSlot s.tracks = some i) :
    (updateTrack s.cprEnv (newTrack m.icao s.scan.now) m.payload).2 = positionCounts s m := by
  cases hl : m.payload.cprLat with
  | none => rw [updateTrack_noPosition s _ _ hl]; simp [positionCounts, hl]
  | some lat => rw [updateTrack_position s _ _ lat hl]; simp [positionCounts, hl, h, hi, createdTrack_eq]

theorem positionCounts_full (s : State) (m : Message) (h : findTrack s.tracks m.icao = none)
    (hi : freeSlot s.tracks = none) : positionCounts s m = [] := by
  unfold positionCounts
  rw [h, hi]
  cases m.payload.cprLat <;> rfl

/-- What a track's update counts is what the state's counters grow by. -/
theorem State.putTrack_counters (s : State) (i : Nat) (u : Track × List Cnt) :
    (s.putTrack i u).counters = (s.countAll u.2).counters := by
  have : ∀ (cs : List Cnt) (u v : State), u.counters = v.counters → (u.countAll cs).counters = (v.countAll cs).counters := by
    intro cs
    induction cs with
    | nil => exact fun u v h => h
    | cons c cs ih => exact fun u v h => ih _ _ (by simp [h])
  exact this _ _ _ rfl

/-- The counters after TRACK_UPDATE: those its CPR_UPDATE incremented, or a full table. -/
theorem State.trackUpdate_counters (s : State) (m : Message) :
    ∃ cs : List Cnt, (s.trackUpdate m).counters = (s.countAll cs).counters ∧
      (∀ c ∈ cs, c = .trackFull ∨ c ∈ cprCounters) ∧
      cs.count .trackFull = (if findTrack s.tracks m.icao = none ∧ freeSlot s.tracks = none then 1 else 0) ∧
      (m.payload.cprLat = none → ∀ c ∈ cs, c = .trackFull) ∧
      ∀ c ∈ cprCounters, cs.count c = (positionCounts s m).count c := by
  have key : ∀ (a : Track) (i : Nat), (updateTrack s.cprEnv a m.payload).2 = positionCounts s m → ∃ cs : List Cnt,
      (s.putTrack i (updateTrack s.cprEnv a m.payload)).counters = (s.countAll cs).counters ∧
      (∀ c ∈ cs, c = .trackFull ∨ c ∈ cprCounters) ∧ cs.count .trackFull = 0 ∧
      (m.payload.cprLat = none → ∀ c ∈ cs, c = .trackFull) ∧
      ∀ c ∈ cprCounters, cs.count c = (positionCounts s m).count c := by
    intro a i hp
    refine ⟨(updateTrack s.cprEnv a m.payload).2, s.putTrack_counters i _,
      fun c hc => .inr ((updateTrack_counts _ _ _).1 c hc), ?_, ?_, fun c _ => by rw [hp]⟩
    · refine List.count_eq_zero.2 fun h => ?_
      have := (updateTrack_counts _ _ _).1 _ h
      simp [cprCounters] at this
    · intro h c hc
      simp [(updateTrack_counts s.cprEnv a m.payload).2 h] at hc
  rcases s.trackUpdate_cases m with ⟨i, a, h, hu⟩ | ⟨h, i, hi, hu⟩ | ⟨h, hi, hu⟩
  · simpa [hu, h] using key a i (positionCounts_found s m i a h)
  · simpa [hu, h, hi] using key _ i (positionCounts_created s m i h hi)
  · refine ⟨[.trackFull], by simp [hu], by simp, by simp [h, hi], by simp, fun c hc => ?_⟩
    rw [positionCounts_full s m h hi]
    cases c <;> simp [cprCounters] at hc ⊢

theorem State.accept_counters (s : State) (m : Message) :
    (s.accept m).counters = (((s.countAccepted).fifoPush m).trackUpdate m).counters := by
  simp [State.accept]

/-- The track update of an acceptance is that of the state before it. -/
theorem State.trackUpdate_congr {s u : State} (m : Message) (ht : u.tracks = s.tracks) (hr : u.regs = s.regs)
    (hn : u.scan.now = s.scan.now) : (u.trackUpdate m).tracks = (s.trackUpdate m).tracks := by
  have he : u.cprEnv = s.cprEnv := by simp [State.cprEnv, hr, hn]
  unfold State.trackUpdate
  rw [ht, he, hn]
  split
  · simp [ht]
  · split <;> simp [ht]

theorem State.countAccepted_value (s : State) (c : Cnt) :
    CountedBy s s.countAccepted c
      ((if c = .accepted then 1 else 0) + (if c = .phaseGood ∧ s.scan.pst = .correcting then 1 else 0)) := by
  unfold State.countAccepted CountedBy
  simp only
  split
  · next h =>
    simp only [State.count_value, h]
    cases c <;> simp
  · next h =>
    simp only [State.count_value, h]
    cases c <;> simp

/-- The counters of a position update are those of the state before the message is counted. -/
theorem positionCounts_congr {s u : State} (m : Message) (ht : u.tracks = s.tracks) (hr : u.regs = s.regs)
    (hn : u.scan.now = s.scan.now) : positionCounts u m = positionCounts s m := by
  simp only [positionCounts, positionUpdate, ht, hr, hn]

/-- An acceptance has the effect the rules give it. -/
theorem State.accept_effect (s : State) (m : Message) : AcceptEffect s (s.accept m) m := by
  have hv : ∀ c, ∃ cs : List Cnt,
      Counters.value (s.accept m).counters c =
        Counters.value (s.countAccepted.fifoPush m).counters c + BitVec.ofNat 32 (cs.count c) ∧
      (∀ c ∈ cs, c = .trackFull ∨ c ∈ cprCounters) ∧
      cs.count .trackFull = (if findTrack s.tracks m.icao = none ∧ freeSlot s.tracks = none then 1 else 0) ∧
      (m.payload.cprLat = none → ∀ c ∈ cs, c = .trackFull) ∧
      ∀ c ∈ cprCounters, cs.count c = (positionCounts s m).count c := by
    intro c
    obtain ⟨cs, h1, h2, h3, h4, h5⟩ := (s.countAccepted.fifoPush m).trackUpdate_counters m
    rw [positionCounts_congr (s := s) m (by simp) (by simp) (by simp)] at h5
    exact ⟨cs, by rw [State.accept_counters, h1, State.countAll_value], h2, by simpa using h3, h4, h5⟩
  have hp : ∀ c, Counters.value (s.countAccepted.fifoPush m).counters c =
      Counters.value s.counters c + BitVec.ofNat 32
        ((if c = .accepted then 1 else 0) + (if c = .phaseGood ∧ s.scan.pst = .correcting then 1 else 0) +
          (if c = .fifoOverflow ∧ ¬s.fifo.length < 64 then 1 else 0)) := by
    intro c
    have ha := s.countAccepted_value c
    rw [CountedBy] at ha
    rcases s.countAccepted.fifoPush_cases m with ⟨hl, _, hc⟩ | ⟨hl, _, hc⟩
    · simp only [State.countAccepted_fifo] at hl
      rw [hc, ha]
      simp [hl]
    · simp only [State.countAccepted_fifo] at hl
      have hl' : ¬s.fifo.length < 64 := Nat.not_lt.2 hl
      rw [hc, Counters.value_addTo, ha]
      by_cases h : c = .fifoOverflow
      · subst h; simp [hl']
      · simp [h, Ne.symm h]
  refine ⟨by simp, fun a => by simp [State.readSample], by simp, by simp, by simp, by simp, by simp, ?_, ?_, ?_, ?_, ?_, ?_,
    ?_, ?_, ?_, ?_, ?_, ?_, fun c hc => ?_, fun hn c hc => ?_,
    fun c hc => ?_⟩
  · have := State.finish_otherStatus ((((s.countAccepted).fifoPush m).trackUpdate m).advancePast m.frame)
    simpa [State.accept] using this
  · simp [State.accept_scan]
  · simp [State.accept_scan]
  · simp [State.accept_scan]
  · simp [State.accept_scan]
  · have := State.finish_busy ((((s.countAccepted).fifoPush m).trackUpdate m).advancePast m.frame)
    simpa [State.accept, State.finish_scan] using this
  · exact State.accept_fifo s m
  · simp only [State.accept, State.finish_tracks, State.advancePast_tracks]
    exact State.trackUpdate_congr m (by simp) (by simp) (by simp)
  · obtain ⟨cs, h1, h2, _⟩ := hv .accepted
    have : cs.count .accepted = 0 := List.count_eq_zero.2 fun h => by have := h2 _ h; simp [cprCounters] at this
    rw [CountedBy, h1, hp, this]; simp
  · obtain ⟨cs, h1, h2, _⟩ := hv .phaseGood
    have : cs.count .phaseGood = 0 := List.count_eq_zero.2 fun h => by have := h2 _ h; simp [cprCounters] at this
    rw [CountedBy, h1, hp, this]; simp
  · obtain ⟨cs, h1, h2, _⟩ := hv .fifoOverflow
    have : cs.count .fifoOverflow = 0 := List.count_eq_zero.2 fun h => by have := h2 _ h; simp [cprCounters] at this
    rw [CountedBy, h1, hp, this]
    by_cases h : s.fifo.length < 64 <;> simp [h]
  · obtain ⟨cs, h1, _, h3, _⟩ := hv .trackFull
    rw [CountedBy, h1, hp, h3]; simp
  · obtain ⟨cs, h1, h2, _⟩ := hv c
    have : cs.count c = 0 := List.count_eq_zero.2 fun h => by
      have := h2 _ h; cases c <;> simp [cprCounters, attemptCounters] at this hc
    rw [CountedBy, h1, hp, this]
    cases c <;> simp [attemptCounters] at hc ⊢
  · obtain ⟨cs, h1, _, _, h4, _⟩ := hv c
    have : cs.count c = 0 := List.count_eq_zero.2 fun h => by
      have := h4 hn _ h; subst this; simp [cprCounters] at hc
    rw [CountedBy, h1, hp, this]
    cases c <;> simp [cprCounters] at hc ⊢
  · obtain ⟨cs, h1, _, _, _, h5⟩ := hv c
    rw [CountedBy, h1, hp, h5 c hc]
    cases c <;> simp [cprCounters] at hc ⊢

end Sys2Proof.Machine
end

