-- ==== Sys2Proof/Laws/Frames.lean ====
section
/-! SUPPORT. What running a frame can do: every downlink format and every ME message ends in an acceptance or a rejection. -/

namespace Sys2Proof.Machine

/-- u is s up to its counters, the cache and the frame register: what the checksum stage can have changed before an
acceptance. -/
structure Prepared (s u : State) : Prop where
  regs : u.regs = s.regs
  status : u.status = s.status
  scan : u.scan = s.scan
  tracks : u.tracks = s.tracks
  fifo : u.fifo = s.fifo
  ram : u.ram = s.ram
  mag : u.mag = s.mag
  rsp : u.rsp = s.rsp
  schedule : u.schedule = s.schedule
  win : u.dp.win = s.dp.win
  bits : u.dp.bits = s.dp.bits
  cache : u.cache = s.cache ∨ ∃ a, u.cache = (s.cacheInsert a s.scan.now).cache

theorem Prepared.refl (s : State) : Prepared s s :=
  ⟨rfl, rfl, rfl, rfl, rfl, rfl, rfl, rfl, rfl, rfl, rfl, .inl rfl⟩

/-- How a frame ends: a verified message is accepted, at a state that the checksum stage prepared, or the attempt is
rejected. -/
def EndsAttempt (s : State) (r : Result) : Prop :=
  (∃ u m, Prepared s u ∧ m.crcOk = true ∧ m.timestamp = s.scan.now ∧ m.offset = s.scan.j ∧ r = .next (u.accept m)) ∨
  ∃ c, r = .next (s.reject c)

theorem State.verifyAp_cases (s : State) (f : Frame) (p : Payload) :
    (s.cacheFound (f.syndrome.setWidth 32) s.scan.now = true ∧
      s.verifyAp f p = (s.count .apOk).accept (s.record f.dfField f.capability f.syndrome .none f p)) ∨
    (s.cacheFound (f.syndrome.setWidth 32) s.scan.now = false ∧ s.verifyAp f p = s.reject .apUnknown) := by
  unfold State.verifyAp
  cases s.cacheFound (f.syndrome.setWidth 32) s.scan.now with
  | true => exact .inl ⟨rfl, rfl⟩
  | false => exact .inr ⟨rfl, rfl⟩

theorem State.verifyAp_ends (s : State) (f : Frame) (p : Payload) : EndsAttempt s (.next (s.verifyAp f p)) := by
  rcases s.verifyAp_cases f p with ⟨_, h⟩ | ⟨_, h⟩ <;> rw [h]
  · exact .inl ⟨s.count .apOk, _, ⟨rfl, rfl, rfl, rfl, rfl, rfl, rfl, rfl, rfl, rfl, rfl, .inl rfl⟩, rfl, rfl, rfl, rfl⟩
  · exact .inr ⟨_, rfl⟩

/-- DF11 ends as its verification says (43_checksum R223). -/
theorem execDf11AllCall_cases (f : AllCall) (s : State) (frame : BitVec 56) (hf : frame = shortFrame 11 f.bits) :
    (checksum frame = txField frame ∧ execDf11AllCall f s =
      .next (((s.count .crcGood).cacheInsert ((icao frame 9 24).setWidth 32) s.scan.now).acceptAllCall .none frame)) ∨
    (checksum frame ≠ txField frame ∧ ∃ p, fix1 frame = some p ∧ execDf11AllCall f s =
      .next (((s.count .fix1).setShortFrame (flipBit frame p)).acceptAllCall (.single (BitVec.ofNat 7 p))
        (flipBit frame p))) ∨
    (checksum frame ≠ txField frame ∧ fix1 frame = none ∧ execDf11AllCall f s = .next (s.reject .crcBad)) := by
  subst hf
  unfold execDf11AllCall
  simp only
  by_cases h : checksum (shortFrame 11 f.bits) = txField (shortFrame 11 f.bits)
  · rw [if_pos h]; exact .inl ⟨h, rfl⟩
  · rw [if_neg h]
    cases hp : fix1 (shortFrame 11 f.bits) with
    | some p => exact .inr (.inl ⟨h, p, rfl, rfl⟩)
    | none => exact .inr (.inr ⟨h, rfl, rfl⟩)

theorem State.acceptAllCall_ends (s u : State) (fix : BitFix) (f : BitVec 56) (h : Prepared s u) :
    EndsAttempt s (.next (u.acceptAllCall fix f)) := by
  unfold State.acceptAllCall
  refine .inl ⟨u, _, h, ?_, ?_, ?_, rfl⟩
  · rfl
  · simp [State.record, h.scan]
  · simp [State.record, h.scan]

theorem execDf11AllCall_ends (f : AllCall) (s : State) : EndsAttempt s (execDf11AllCall f s) := by
  rcases execDf11AllCall_cases f s _ rfl with ⟨_, h⟩ | ⟨_, p, _, h⟩ | ⟨_, _, h⟩ <;> rw [h]
  · exact State.acceptAllCall_ends s _ _ _ ⟨rfl, rfl, rfl, rfl, rfl, rfl, rfl, rfl, rfl, rfl, rfl, .inr ⟨_, rfl⟩⟩
  · exact State.acceptAllCall_ends s _ _ _ ⟨rfl, rfl, rfl, rfl, rfl, rfl, rfl, rfl, rfl, rfl, rfl, .inl rfl⟩
  · exact .inr ⟨_, rfl⟩

/-! ### Extended squitter -/

theorem execSquitter19_accepts (h : SquitterHead) (f : BitVec 112) (s : State) :
    ∃ g p, execSquitter19 h f s = .next (s.acceptSquitter h g p) := by
  unfold execSquitter19
  split <;> exact ⟨_, _, rfl⟩

/-- Every ME message is accepted (44_decoder R250). -/
theorem execSquitter_accepts (h : SquitterHead) (f : BitVec 112) (s : State) :
    ∃ g p, execSquitter h f s = .next (s.acceptSquitter h g p) := by
  unfold execSquitter
  split
  case h_20 => exact execSquitter19_accepts h f s
  all_goals exact ⟨_, _, rfl⟩

theorem exec_decodeMe19 (h : SquitterHead) (f : BitVec 112) (s : State) :
    exec (decodeMe19 h f) s = execSquitter19 h f s := by
  unfold decodeMe19 execSquitter19
  have h3 : (icao f 38 3).toNat < 8 := (icao f 38 3).isLt
  generalize (icao f 38 3).toNat = m at h3
  interval_cases m <;> rfl

/-- A squitter runs as the ME message its frame decodes to (log 14). -/
theorem exec_decodeMe (h : SquitterHead) (f : BitVec 112) (s : State) :
    exec (decodeMe h f) s = execSquitter h f s := by
  unfold decodeMe execSquitter
  have h5 : (icao f 33 5).toNat < 32 := (icao f 33 5).isLt
  generalize (icao f 33 5).toNat = n at h5
  by_cases hn : n = 19
  · subst hn
    exact exec_decodeMe19 h f s
  · interval_cases n
    all_goals first | rfl | exact absurd rfl hn

/-- DF17 ends as its verification says (43_checksum R223). -/
theorem execDf17ExtSquitter_cases (f : ExtSquitter) (s : State) (frame : BitVec 112)
    (hf : frame = longFrame 17 f.bits) :
    (checksum frame = txField frame ∧ execDf17ExtSquitter f s =
      decodeSquitter ((s.count .crcGood).cacheInsert ((icao frame 9 24).setWidth 32) s.scan.now) .none frame) ∨
    (checksum frame ≠ txField frame ∧ ∃ p, fix1 frame = some p ∧ execDf17ExtSquitter f s =
      decodeSquitter ((s.count .fix1).setLongFrame (flipBit frame p)) (.single (BitVec.ofNat 7 p)) (flipBit frame p)) ∨
    (checksum frame ≠ txField frame ∧ fix1 frame = none ∧ s.regs.aggr = true ∧ ∃ p q, fix2 frame = some (p, q) ∧
      execDf17ExtSquitter f s =
        decodeSquitter ((s.count .fix2).setLongFrame (flipBit (flipBit frame p) q))
          (.double (BitVec.ofNat 7 p) (BitVec.ofNat 7 q)) (flipBit (flipBit frame p) q)) ∨
    (checksum frame ≠ txField frame ∧ fix1 frame = none ∧ (s.regs.aggr = false ∨ fix2 frame = none) ∧
      execDf17ExtSquitter f s = .next (s.reject .crcBad)) := by
  subst hf
  unfold execDf17ExtSquitter fix2IfAggressive
  simp only
  by_cases h : checksum (longFrame 17 f.bits) = txField (longFrame 17 f.bits)
  · rw [if_pos h]; exact .inl ⟨h, rfl⟩
  · rw [if_neg h]
    cases hp : fix1 (longFrame 17 f.bits) with
    | some p => exact .inr (.inl ⟨h, p, rfl, rfl⟩)
    | none =>
      cases ha : s.regs.aggr with
      | false => exact .inr (.inr (.inr ⟨h, rfl, .inl rfl, by simp⟩))
      | true =>
        cases hq : fix2 (longFrame 17 f.bits) with
        | some pq => exact .inr (.inr (.inl ⟨h, rfl, rfl, pq.1, pq.2, rfl, by simp⟩))
        | none => exact .inr (.inr (.inr ⟨h, rfl, .inr rfl, by simp⟩))

theorem decodeSquitter_ends (s u : State) (fix : BitFix) (f : BitVec 112) (h : Prepared s u) :
    EndsAttempt s (decodeSquitter u fix f) := by
  obtain ⟨g, p, hx⟩ := execSquitter_accepts (SquitterHead.ofFrame fix f) f u
  refine .inl ⟨u, _, h, ?_, ?_, ?_, by unfold decodeSquitter; exact hx⟩
  · rfl
  · simp [State.record, h.scan]
  · simp [State.record, h.scan]

theorem execDf17ExtSquitter_ends (f : ExtSquitter) (s : State) : EndsAttempt s (execDf17ExtSquitter f s) := by
  rcases execDf17ExtSquitter_cases f s _ rfl with ⟨_, h⟩ | ⟨_, p, _, h⟩ | ⟨_, _, _, p, q, _, h⟩ | ⟨_, _, _, h⟩ <;> rw [h]
  · exact decodeSquitter_ends s _ _ _ ⟨rfl, rfl, rfl, rfl, rfl, rfl, rfl, rfl, rfl, rfl, rfl, .inr ⟨_, rfl⟩⟩
  · exact decodeSquitter_ends s _ _ _ ⟨rfl, rfl, rfl, rfl, rfl, rfl, rfl, rfl, rfl, rfl, rfl, .inl rfl⟩
  · exact decodeSquitter_ends s _ _ _ ⟨rfl, rfl, rfl, rfl, rfl, rfl, rfl, rfl, rfl, rfl, rfl, .inl rfl⟩
  · exact .inr ⟨_, rfl⟩

/-- Every instruction is a host command or ends a decode attempt. -/
theorem exec_command_or_ends (i : Instr) (s : State) : isCommand i ∨ EndsAttempt s (exec i s) := by
  cases i with
  | nop => exact .inl ⟨_, _, _, rfl⟩
  | reset => exact .inl ⟨_, _, _, rfl⟩
  | regWrite _ _ => exact .inl ⟨_, _, _, rfl⟩
  | regRead _ => exact .inl ⟨_, _, _, rfl⟩
  | sampleWrite _ _ => exact .inl ⟨_, _, _, rfl⟩
  | sampleRead _ => exact .inl ⟨_, _, _, rfl⟩
  | process _ _ => exact .inl ⟨_, _, _, rfl⟩
  | cancel => exact .inl ⟨_, _, _, rfl⟩
  | sweep _ => exact .inl ⟨_, _, _, rfl⟩
  | msgPop => exact .inl ⟨_, _, _, rfl⟩
  | trackRead _ => exact .inl ⟨_, _, _, rfl⟩
  | trackSlot _ => exact .inl ⟨_, _, _, rfl⟩
  | cacheInsert _ _ => exact .inl ⟨_, _, _, rfl⟩
  | cacheQuery _ _ => exact .inl ⟨_, _, _, rfl⟩
  | reservedCmd _ => exact .inl ⟨_, _, _, rfl⟩
  | df0ShortAirAir _ => exact .inr (State.verifyAp_ends s _ _)
  | df1Unsupported _ => exact .inr (.inr ⟨_, rfl⟩)
  | df2Unsupported _ => exact .inr (.inr ⟨_, rfl⟩)
  | df3Unsupported _ => exact .inr (.inr ⟨_, rfl⟩)
  | df4SurvAlt _ => exact .inr (State.verifyAp_ends s _ _)
  | df5SurvId _ => exact .inr (State.verifyAp_ends s _ _)
  | df6Unsupported _ => exact .inr (.inr ⟨_, rfl⟩)
  | df7Unsupported _ => exact .inr (.inr ⟨_, rfl⟩)
  | df8Unsupported _ => exact .inr (.inr ⟨_, rfl⟩)
  | df9Unsupported _ => exact .inr (.inr ⟨_, rfl⟩)
  | df10Unsupported _ => exact .inr (.inr ⟨_, rfl⟩)
  | df11AllCall _ => exact .inr (execDf11AllCall_ends _ s)
  | df12Unsupported _ => exact .inr (.inr ⟨_, rfl⟩)
  | df13Unsupported _ => exact .inr (.inr ⟨_, rfl⟩)
  | df14Unsupported _ => exact .inr (.inr ⟨_, rfl⟩)
  | df15Unsupported _ => exact .inr (.inr ⟨_, rfl⟩)
  | df16LongAirAir _ => exact .inr (State.verifyAp_ends s _ _)
  | df17ExtSquitter _ => exact .inr (execDf17ExtSquitter_ends _ s)
  | df18Unsupported _ => exact .inr (.inr ⟨_, rfl⟩)
  | df19Unsupported _ => exact .inr (.inr ⟨_, rfl⟩)
  | df20CommbAlt _ => exact .inr (State.verifyAp_ends s _ _)
  | df21CommbId _ => exact .inr (State.verifyAp_ends s _ _)
  | df22Unsupported _ => exact .inr (.inr ⟨_, rfl⟩)
  | df23Unsupported _ => exact .inr (.inr ⟨_, rfl⟩)
  | df24CommD _ => exact .inr (State.verifyAp_ends s _ _)
  | meTc0NoPosition _ _ => exact .inr (.inl ⟨s, _, Prepared.refl s, rfl, rfl, rfl, rfl⟩)
  | meTc1Identification _ _ => exact .inr (.inl ⟨s, _, Prepared.refl s, rfl, rfl, rfl, rfl⟩)
  | meTc2Identification _ _ => exact .inr (.inl ⟨s, _, Prepared.refl s, rfl, rfl, rfl, rfl⟩)
  | meTc3Identification _ _ => exact .inr (.inl ⟨s, _, Prepared.refl s, rfl, rfl, rfl, rfl⟩)
  | meTc4Identification _ _ => exact .inr (.inl ⟨s, _, Prepared.refl s, rfl, rfl, rfl, rfl⟩)
  | meTc5SurfacePosition _ _ => exact .inr (.inl ⟨s, _, Prepared.refl s, rfl, rfl, rfl, rfl⟩)
  | meTc6SurfacePosition _ _ => exact .inr (.inl ⟨s, _, Prepared.refl s, rfl, rfl, rfl, rfl⟩)
  | meTc7SurfacePosition _ _ => exact .inr (.inl ⟨s, _, Prepared.refl s, rfl, rfl, rfl, rfl⟩)
  | meTc8SurfacePosition _ _ => exact .inr (.inl ⟨s, _, Prepared.refl s, rfl, rfl, rfl, rfl⟩)
  | meTc9AirbornePositionBaro _ _ => exact .inr (.inl ⟨s, _, Prepared.refl s, rfl, rfl, rfl, rfl⟩)
  | meTc10AirbornePositionBaro _ _ => exact .inr (.inl ⟨s, _, Prepared.refl s, rfl, rfl, rfl, rfl⟩)
  | meTc11AirbornePositionBaro _ _ => exact .inr (.inl ⟨s, _, Prepared.refl s, rfl, rfl, rfl, rfl⟩)
  | meTc12AirbornePositionBaro _ _ => exact .inr (.inl ⟨s, _, Prepared.refl s, rfl, rfl, rfl, rfl⟩)
  | meTc13AirbornePositionBaro _ _ => exact .inr (.inl ⟨s, _, Prepared.refl s, rfl, rfl, rfl, rfl⟩)
  | meTc14AirbornePositionBaro _ _ => exact .inr (.inl ⟨s, _, Prepared.refl s, rfl, rfl, rfl, rfl⟩)
  | meTc15AirbornePositionBaro _ _ => exact .inr (.inl ⟨s, _, Prepared.refl s, rfl, rfl, rfl, rfl⟩)
  | meTc16AirbornePositionBaro _ _ => exact .inr (.inl ⟨s, _, Prepared.refl s, rfl, rfl, rfl, rfl⟩)
  | meTc17AirbornePositionBaro _ _ => exact .inr (.inl ⟨s, _, Prepared.refl s, rfl, rfl, rfl, rfl⟩)
  | meTc18AirbornePositionBaro _ _ => exact .inr (.inl ⟨s, _, Prepared.refl s, rfl, rfl, rfl, rfl⟩)
  | meTc19St0Reserved _ _ => exact .inr (.inl ⟨s, _, Prepared.refl s, rfl, rfl, rfl, rfl⟩)
  | meTc19St1VelocityGround _ _ => exact .inr (.inl ⟨s, _, Prepared.refl s, rfl, rfl, rfl, rfl⟩)
  | meTc19St2VelocityGround _ _ => exact .inr (.inl ⟨s, _, Prepared.refl s, rfl, rfl, rfl, rfl⟩)
  | meTc19St3VelocityAirspeed _ _ => exact .inr (.inl ⟨s, _, Prepared.refl s, rfl, rfl, rfl, rfl⟩)
  | meTc19St4VelocityAirspeed _ _ => exact .inr (.inl ⟨s, _, Prepared.refl s, rfl, rfl, rfl, rfl⟩)
  | meTc19St5Reserved _ _ => exact .inr (.inl ⟨s, _, Prepared.refl s, rfl, rfl, rfl, rfl⟩)
  | meTc19St6Reserved _ _ => exact .inr (.inl ⟨s, _, Prepared.refl s, rfl, rfl, rfl, rfl⟩)
  | meTc19St7Reserved _ _ => exact .inr (.inl ⟨s, _, Prepared.refl s, rfl, rfl, rfl, rfl⟩)
  | meTc20AirbornePositionGnss _ _ => exact .inr (.inl ⟨s, _, Prepared.refl s, rfl, rfl, rfl, rfl⟩)
  | meTc21AirbornePositionGnss _ _ => exact .inr (.inl ⟨s, _, Prepared.refl s, rfl, rfl, rfl, rfl⟩)
  | meTc22AirbornePositionGnss _ _ => exact .inr (.inl ⟨s, _, Prepared.refl s, rfl, rfl, rfl, rfl⟩)
  | meTc23Other _ _ => exact .inr (.inl ⟨s, _, Prepared.refl s, rfl, rfl, rfl, rfl⟩)
  | meTc24Other _ _ => exact .inr (.inl ⟨s, _, Prepared.refl s, rfl, rfl, rfl, rfl⟩)
  | meTc25Other _ _ => exact .inr (.inl ⟨s, _, Prepared.refl s, rfl, rfl, rfl, rfl⟩)
  | meTc26Other _ _ => exact .inr (.inl ⟨s, _, Prepared.refl s, rfl, rfl, rfl, rfl⟩)
  | meTc27Other _ _ => exact .inr (.inl ⟨s, _, Prepared.refl s, rfl, rfl, rfl, rfl⟩)
  | meTc28Other _ _ => exact .inr (.inl ⟨s, _, Prepared.refl s, rfl, rfl, rfl, rfl⟩)
  | meTc29Other _ _ => exact .inr (.inl ⟨s, _, Prepared.refl s, rfl, rfl, rfl, rfl⟩)
  | meTc30Other _ _ => exact .inr (.inl ⟨s, _, Prepared.refl s, rfl, rfl, rfl, rfl⟩)
  | meTc31Other _ _ => exact .inr (.inl ⟨s, _, Prepared.refl s, rfl, rfl, rfl, rfl⟩)

end Sys2Proof.Machine
end

