-- ==== Sys2Proof/Laws/Numbers.lean ====
section
/-! SUPPORT. The order of binary64 numbers that are not negative is the order of their patterns, and what the table lookup
of NL counts (45_cpr R291). -/

namespace Sys2Proof.Machine

/-- A pattern without the sign is its exponent and fraction fields. -/
theorem F64.toNat_eq (x : F64) (h : x.toNat < 2 ^ 63) : x.toNat = 2 ^ 52 * F64.expField x + F64.frac x := by
  have h1 : F64.expField x = x.toNat / 2 ^ 52 := by
    rw [F64.expField, BitVec.extractLsb'_toNat, Nat.shiftRight_eq_div_pow, Nat.mod_eq_of_lt]
    exact Nat.div_lt_of_lt_mul (by omega)
  have h2 : F64.frac x = x.toNat % 2 ^ 52 := by simp [F64.frac]
  rw [h1, h2]
  exact (Nat.div_add_mod _ _).symm

/-- The magnitude rises with the pattern. -/
theorem F64.units_lt {x y : F64} (hx : x.toNat < 2 ^ 63) (hy : y.toNat < 2 ^ 63) (h : x.toNat < y.toNat) :
    F64.units x < F64.units y := by
  have f1 : F64.frac x < 2 ^ 52 := (x.extractLsb' 0 52).isLt
  have f2 : F64.frac y < 2 ^ 52 := (y.extractLsb' 0 52).isLt
  rw [F64.toNat_eq x hx, F64.toNat_eq y hy] at h
  unfold F64.units
  generalize F64.expField x = e at *
  generalize F64.expField y = e' at *
  generalize F64.frac x = f at *
  generalize F64.frac y = f' at *
  simp only [Nat.shiftLeft_eq]
  rcases Nat.lt_or_ge e e' with he | he
  · rw [if_neg (by omega : ¬e' = 0)]
    have h2 : 2 ^ 52 * 2 ^ (e' - 1) ≤ (2 ^ 52 + f') * 2 ^ (e' - 1) := Nat.mul_le_mul_right _ (by omega)
    refine Nat.lt_of_lt_of_le ?_ h2
    split
    · exact Nat.lt_of_lt_of_le f1 (Nat.le_mul_of_pos_right _ (Nat.two_pow_pos _))
    · have h3 : 2 ^ (e - 1) * 2 ≤ 2 ^ (e' - 1) := by
        rw [← Nat.pow_succ]; exact Nat.pow_le_pow_right (by decide) (by omega)
      calc (2 ^ 52 + f) * 2 ^ (e - 1) < (2 ^ 52 * 2) * 2 ^ (e - 1) :=
            Nat.mul_lt_mul_of_pos_right (by omega) (Nat.two_pow_pos _)
        _ = 2 ^ 52 * (2 ^ (e - 1) * 2) := by rw [Nat.mul_assoc, Nat.mul_comm 2]
        _ ≤ 2 ^ 52 * 2 ^ (e' - 1) := Nat.mul_le_mul_left _ h3
  · have he2 : e = e' := by omega
    subst he2
    have hf : f < f' := by omega
    split
    · exact hf
    · exact Nat.mul_lt_mul_of_pos_right (by omega) (Nat.two_pow_pos _)

theorem F64.isNaN_eq_false {x : F64} (h : x.toNat ≤ 0x7FF0000000000000) : F64.isNaN x = false := by
  have hx := F64.toNat_eq x (by omega)
  unfold F64.isNaN
  rw [Bool.and_eq_false_iff]
  by_cases he : F64.expField x = 2047
  · right
    have : F64.frac x = 0 := by omega
    simp [this]
  · left
    simp [he]

theorem F64.signedUnits_eq {x : F64} (h : x.toNat < 2 ^ 63) : F64.signedUnits x = (F64.units x : Int) := by
  rw [F64.signedUnits, if_neg]
  rw [F64.neg?, BitVec.msb_eq_decide]
  simp
  omega

/-- Numbers that are not negative compare as their patterns. -/
theorem F64.lt_patterns {x y : F64} (hx : x.toNat ≤ 0x7FF0000000000000) (hy : y.toNat ≤ 0x7FF0000000000000) :
    F64.lt x y = decide (x.toNat < y.toNat) := by
  have hx' : x.toNat < 2 ^ 63 := by omega
  have hy' : y.toNat < 2 ^ 63 := by omega
  rw [F64.lt, F64.isNaN_eq_false hx, F64.isNaN_eq_false hy, F64.signedUnits_eq hx', F64.signedUnits_eq hy',
    Bool.not_false, Bool.true_and, Bool.true_and, decide_eq_decide, Int.ofNat_lt]
  rcases Nat.lt_trichotomy x.toNat y.toNat with h | h | h
  · exact iff_of_true (F64.units_lt hx' hy' h) h
  · rw [BitVec.eq_of_toNat_eq h]
    exact iff_of_false (Nat.lt_irrefl _) (Nat.lt_irrefl _)
  · exact iff_of_false (Nat.lt_asymm (F64.units_lt hy' hx' h)) (Nat.lt_asymm h)

/-- The table lookup of NL counts the thresholds at or below x. -/
theorem nlFrom_eq (x : F64) (hx : x.toNat ≤ 0x7FF0000000000000) (ts : List Nat) (n : Nat)
    (hs : ts.Pairwise (fun a b => a < b)) (hb : ∀ t ∈ ts, t ≤ 0x7FF0000000000000) :
    nlFrom x (ts.map (BitVec.ofNat 64)) n = n - (ts.filter (fun t => t ≤ x.toNat)).length := by
  induction ts generalizing n with
  | nil => rfl
  | cons t ts ih =>
    have ht := hb t (List.mem_cons_self ..)
    have ht' : (BitVec.ofNat 64 t).toNat = t := by rw [BitVec.toNat_ofNat]; omega
    rw [List.pairwise_cons] at hs
    rw [List.map_cons, nlFrom, F64.lt_patterns hx (ht'.symm ▸ ht), ht', List.filter_cons]
    by_cases h : x.toNat < t
    · have : ts.filter (fun t => t ≤ x.toNat) = [] := by
        rw [List.filter_eq_nil_iff]
        intro a ha
        have := hs.1 a ha
        simp; omega
      simp [h, this, show ¬t ≤ x.toNat by omega]
    · rw [ih (n - 1) hs.2 (fun a ha => hb a (List.mem_cons_of_mem _ ha))]
      simp [h, show t ≤ x.toNat by omega]
      omega

end Sys2Proof.Machine
end

