-- ==== Sys2Proof/Laws/Operands.lean ====
section
/-! SUPPORT. The operand checks and the error count as numbers. -/

namespace Sys2Proof.Machine

theorem addressOk_iff (a : U64) : addressOk a = true ↔ a.toNat < 2 ^ 24 := by
  unfold addressOk
  rw [beq_iff_eq, ← BitVec.toNat_inj, BitVec.extractLsb'_toNat]
  simp only [Nat.shiftRight_eq_div_pow, BitVec.toNat_ofNat, Nat.zero_mod]
  have := a.isLt
  omega

theorem addressOf_setWidth (a : U64) (h : a.toNat < 2 ^ 24) : (addressOf a).setWidth 32 = BitVec.ofNat 32 a.toNat := by
  apply BitVec.eq_of_toNat_eq
  simp [addressOf]
  omega

theorem byteOk_iff (b : U64) : byteOk b = true ↔ b.toNat < 256 := by
  unfold byteOk
  rw [beq_iff_eq, ← BitVec.toNat_inj, BitVec.extractLsb'_toNat]
  simp only [Nat.shiftRight_eq_div_pow, BitVec.toNat_ofNat, Nat.zero_mod]
  have := b.isLt
  omega

theorem byteOf_eq (b : U64) : byteOf b = BitVec.ofNat 8 b.toNat := by
  apply BitVec.eq_of_toNat_eq
  simp [byteOf]

/-- ERRCNT fits its register (10_state R35). -/
theorem errorCount_le (bs : List (SliceBit × Bool)) : errorCount bs ≤ 56 := by
  have h1 := List.countP_le_length (p := fun b : SliceBit × Bool => b.2) (l := bs.take 56)
  have h2 := List.length_take_le 56 bs
  unfold errorCount
  omega

end Sys2Proof.Machine
end

