-- ==== Sys2Proof/Laws/Resolver.lean ====
section
/-! SUPPORT. The functions of the resolver are the rules of 45_cpr as Safety.lean writes them. -/

namespace Sys2Proof.Machine

theorem localDecode_asWritten (ref : Position) (cl co : BitVec 17) (odd surface : Bool) :
    localDecode ref cl co odd surface = localAsWritten ref cl co odd surface := by
  unfold localDecode localAsWritten
  cases odd <;> simp only [latOutside, beyondHalfCell, Bool.or_eq_true] <;> rfl

theorem localAsWritten_ne_zone (ref : Position) (cl co : BitVec 17) (odd surface : Bool) :
    localAsWritten ref cl co odd surface ≠ .zone := by
  unfold localAsWritten
  simp only
  split_ifs <;> simp

theorem candidateLat_eq (surface odd : Bool) (j : Int) (raw : BitVec 17) (ref : Position) :
    globalLat surface odd j raw ref = candidateLat surface ref.lat (globalLatRaw surface odd j raw) := by
  have hz : F64.zero false = 0#64 := rfl
  unfold globalLat candidateLat surfLat foldLat
  generalize globalLatRaw surface odd j raw = r
  rw [hz]
  cases surface with
  | false => simp only [Bool.false_eq_true, if_true, if_false]
  | true => simp only [if_true, Bool.true_eq_false, if_false]

theorem globalDecode_asWritten (el eo ol oo : BitVec 17) (odd surface : Bool) (ref : Position) :
    globalDecode el eo ol oo odd surface ref = globalAsWritten el eo ol oo odd surface ref := by
  unfold globalDecode globalAsWritten
  simp only [candidateLat_eq, latOutside, Bool.or_eq_true, List.mem_cons, List.not_mem_nil, or_false, exists_eq_or_imp,
    exists_eq_left]
  rfl

theorem globalAsWritten_ne_far (el eo ol oo : BitVec 17) (odd surface : Bool) (ref : Position) :
    globalAsWritten el eo ol oo odd surface ref ≠ .far := by
  unfold globalAsWritten
  simp only
  split_ifs <;> simp

/-- In the air the reference does not matter (45_cpr R300). -/
theorem globalAsWritten_airborne (el eo ol oo : BitVec 17) (odd : Bool) (p q : Position) :
    globalAsWritten el eo ol oo odd false p = globalAsWritten el eo ol oo odd false q := by
  unfold globalAsWritten candidateLat
  simp

/-! ### References and pairing -/

theorem ageOf_le (now t : U64) (k : Nat) : (ageOf now t ≤ (k : Int)) ↔ now.toNat ≤ t.toNat + k := by
  unfold ageOf
  omega

/-- The local reference is the one R299 selects. -/
theorem localReference_iff (env : CprEnv) (a : Track) (surface : Bool) (ref : Position) (src : PosSource) :
    localReference env a surface = some (ref, src) ↔ LocalReference env a surface ref src := by
  have hh : homeReference env surface = some (ref, src) ↔
      env.homeValid = true ∧ 0 < env.maxRangeM ∧ env.maxRangeM ≤ (if surface then 83340 else 333360) ∧
        ref = env.home ∧ src = .relative := by
    unfold homeReference homeLimit
    by_cases h : env.homeValid = true ∧ 0 < env.maxRangeM ∧ env.maxRangeM ≤ (if surface then 83340 else 333360)
    · rw [if_pos h]
      simp only [h, true_and, Option.some.injEq, Prod.mk.injEq]
      exact ⟨fun ⟨h1, h2⟩ => ⟨h1.symm, h2.symm⟩, fun ⟨h1, h2⟩ => ⟨h1.symm, h2.symm⟩⟩
    · rw [if_neg h]
      simp only [reduceCtorEq, false_iff]
      exact fun ⟨h1, h2, h3, _⟩ => h ⟨h1, h2, h3⟩
  unfold localReference LocalReference OwnFix
  cases ha : a.pos with
  | none => simp [hh]
  | some p =>
    simp only [ageOf_le, Config.LOCAL_REF_MAX_AGE_MS]
    generalize a.posTime.toNat + 600000 = limit
    by_cases hg : env.now.toNat ≤ limit
    · rw [if_pos hg]
      simp only [hg, and_true, Option.some.injEq, Prod.mk.injEq]
      constructor
      · rintro ⟨h1, h2⟩; exact .inl ⟨h1, h2.symm⟩
      · rintro (⟨h1, h2⟩ | ⟨h, -⟩)
        · exact ⟨h1, h2.symm⟩
        · exact absurd rfl (h p)
    · rw [if_neg hg, hh]
      simp only [hg, and_false, false_and, false_or, not_false_eq_true, implies_true, true_and]

theorem localReference_eq_none (env : CprEnv) (a : Track) (surface : Bool) :
    localReference env a surface = none ↔ ∀ ref src, ¬LocalReference env a surface ref src := by
  simp only [← localReference_iff]
  cases localReference env a surface with
  | none => simp
  | some q => simp only [reduceCtorEq, false_iff]; exact fun h => h q.1 q.2 rfl

theorem mayPair_iff (now : U64) (surface : Bool) (q : CprSample) :
    mayPair now surface q = true ↔
      q.surface = surface ∧ now.toNat ≤ q.timestamp.toNat + (if surface then 50000 else 10000) := by
  unfold mayPair pairWindow
  rw [Bool.and_eq_true, decide_eq_true_iff, ageOf_le, beq_iff_eq]

/-! ### Plausibility -/

theorem greatCircle_eq (p q : Position) : greatCircle p q = metresBetween p q := rfl

theorem tooFarFromHome_iff (env : CprEnv) (p : Position) : tooFarFromHome env p = true ↔ RangeFails env p := by
  unfold tooFarFromHome RangeFails
  simp [greatCircle_eq, and_assoc]

theorem travelRange_eq (env : CprEnv) (a : Track) (surface : Bool) :
    travelRange (ageOf env.now a.posTime) (checkSpeed a surface) surface = allowedTravel env a surface := by
  have hk : knownSpeed a surface =
      a.gsKt.getD ((a.airspeedKt.map F64.ofNat).getD (F64.ofNat (if surface then 100 else 600))) := by
    unfold knownSpeed
    cases a.gsKt <;> cases a.airspeedKt <;> rfl
  unfold travelRange allowedTravel checkSpeed
  rw [hk]
  rfl

theorem tooFast_iff (env : CprEnv) (a : Track) (p : Position) (surface : Bool) :
    tooFast env a p surface = true ↔ SpeedFails env a p surface := by
  unfold tooFast SpeedFails
  cases a.pos with
  | none => simp
  | some old => simp [travelRange_eq, greatCircle_eq]

/-- What the plausibility checks answer, by the two checks (45_cpr R303). -/
theorem plausible_cases (env : CprEnv) (a : Track) (p : Position) (surface : Bool) :
    (plausible env a p surface = .rejRange ∧ RangeFails env p) ∨
    (plausible env a p surface = .rejSpeed ∧ ¬RangeFails env p ∧ SpeedFails env a p surface) ∨
    (plausible env a p surface = .ok ∧ Plausible env a p surface) := by
  unfold plausible Plausible
  rw [← tooFarFromHome_iff, ← tooFast_iff]
  cases tooFarFromHome env p <;> cases tooFast env a p surface <;> simp

end Sys2Proof.Machine
end

