-- ==== Sys2Proof/Laws/Slicer.lean ====
section
/-! SUPPORT. What the window, the sliced bits and the packed frame hold, entry by entry (41_preamble R186, 42_bitslicer R200
to R202). -/

namespace Sys2Proof.Machine

@[simp] theorem windowFrom_length (ms : List (BitVec 16)) (n : Nat) : (windowFrom ms n).length = n := by
  induction n generalizing ms with
  | zero => rfl
  | succ n ih => cases ms <;> simp [windowFrom, ih]

/-- An entry of the window is the magnitude at its place, or 0 past the end. -/
theorem windowFrom_getElem? (ms : List (BitVec 16)) (n i : Nat) (h : i < n) :
    (windowFrom ms n)[i]? = some ((ms.getD i 0#16).setWidth 17) := by
  induction n generalizing ms i with
  | zero => omega
  | succ n ih =>
    cases ms with
    | nil =>
      cases i with
      | zero => rfl
      | succ i => simpa [windowFrom] using ih [] i (by omega)
    | cons x xs =>
      cases i with
      | zero => rfl
      | succ i => simpa [windowFrom] using ih xs i (by omega)

theorem sliceFrom_length (prev : Option SliceBit) (n : Nat) (w : List (BitVec 17)) (h : w.length = 2 * n) :
    (sliceFrom prev w).length = n := by
  induction n generalizing prev w with
  | zero => rw [List.length_eq_zero_iff.1 h]; rfl
  | succ n ih =>
    match w, h with
    | lo :: hi :: rest, h => simp [sliceFrom, ih _ rest (by simp at h; omega)]

/-- Entry k is sliced from pair k and the entry before it. -/
theorem sliceFrom_getElem? (prev : Option SliceBit) (w : List (BitVec 17)) (k : Nat) (lo hi : BitVec 17)
    (hl : w[2 * k]? = some lo) (hh : w[2 * k + 1]? = some hi) :
    (sliceFrom prev w)[k]? =
      some (sliceBit (if k = 0 then prev else ((sliceFrom prev w)[k - 1]?).map Prod.fst) lo hi) := by
  induction k generalizing prev w with
  | zero =>
    match w, hl, hh with
    | lo' :: hi' :: rest, hl, hh =>
      simp at hl hh
      simp [sliceFrom, hl, hh]
  | succ k ih =>
    match w, hl, hh with
    | lo' :: hi' :: rest, hl, hh =>
      have hl' : rest[2 * k]? = some lo := by simpa [Nat.mul_add] using hl
      have hh' : rest[2 * k + 1]? = some hi := by
        have : 2 * (k + 1) + 1 = 2 * k + 1 + 1 + 1 := by omega
        rw [this] at hh
        simpa using hh
      have := ih (some (sliceBit prev lo' hi').1) rest hl' hh'
      cases k with
      | zero => simpa [sliceFrom] using this
      | succ k => simpa [sliceFrom] using this
    | [x], hl, _ =>
      have : 2 * (k + 1) = 2 * k + 1 + 1 := by omega
      simp [this] at hl

/-- The bits of a packed number: the last bit of the list is bit 0. -/
theorem packBits_testBit (bs : List SliceBit) (acc i : Nat) :
    (bs.foldl (fun acc b => 2 * acc + (if b = .one then 1 else 0)) acc).testBit i =
      if i < bs.length then decide (bs[bs.length - 1 - i]? = some .one) else acc.testBit (i - bs.length) := by
  induction bs using List.reverseRecOn generalizing i with
  | nil => simp
  | append_singleton bs b ih =>
    rw [List.foldl_append]
    cases i with
    | zero =>
      cases b <;> simp [Nat.testBit_zero]
    | succ i =>
      simp only [List.foldl_cons, List.foldl_nil, Nat.testBit_succ, List.length_append, List.length_singleton]
      have hd : ∀ n : Nat, (2 * n + (if b = .one then 1 else 0)) / 2 = n := fun n => by split <;> omega
      rw [hd, ih]
      by_cases h : i < bs.length
      · rw [if_pos h, if_pos (by omega), List.getElem?_append_left (by omega)]
        congr 3
        omega
      · rw [if_neg h, if_neg (by omega)]
        congr 1
        omega

/-- Frame bit k of a packed frame is set iff bit k was sliced to 1. -/
theorem packBits_getMsbD (bs : List SliceBit) (h : bs.length = 112) (k : Nat) (hk : k < 112) :
    (packBits bs).getMsbD k = decide (bs[k]? = some .one) := by
  unfold packBits
  rw [BitVec.getMsbD_eq_getLsbD, BitVec.getLsbD_ofNat, packBits_testBit, h]
  have : 112 - 1 - (112 - 1 - k) = k := by omega
  rw [this, if_pos (by omega)]
  simp [hk]
  omega

end Sys2Proof.Machine
end

