-- ==== Sys2Proof/Laws/Tables.lean ====
section
/-! SUPPORT. What the sparse tables do: reading after writing, and that every operation keeps the canonical form. -/

namespace Sys2Proof.Machine

theorem Sparse.lookup_put_same {α : Type} (m : Sparse α) (a : Nat) (v : α) :
    Sparse.lookup (Sparse.put m a v) a = some v := by
  induction m with
  | nil => simp [Sparse.put, Sparse.lookup]
  | cons e r ih =>
    obtain ⟨k, x⟩ := e
    rw [Sparse.put]
    split
    · simp [Sparse.lookup]
    · split
      · simp [Sparse.lookup]
      · next h => simp [Sparse.lookup, ih, Ne.symm h]

theorem Sparse.lookup_put_other {α : Type} (m : Sparse α) {a b : Nat} (v : α) (h : b ≠ a) :
    Sparse.lookup (Sparse.put m a v) b = Sparse.lookup m b := by
  induction m with
  | nil => simp [Sparse.put, Sparse.lookup, Ne.symm h]
  | cons e r ih =>
    obtain ⟨k, x⟩ := e
    rw [Sparse.put]
    split
    · simp [Sparse.lookup, Ne.symm h]
    · split
      · next hk => subst hk; simp [Sparse.lookup, Ne.symm h]
      · simp [Sparse.lookup, ih]

/-- Every entry of a table with an index set is the new one or an old one. -/
theorem Sparse.mem_put {α : Type} {m : Sparse α} {a : Nat} {v : α} {e : Nat × α} (h : e ∈ Sparse.put m a v) :
    e = (a, v) ∨ e ∈ m := by
  induction m with
  | nil => simpa [Sparse.put] using h
  | cons c r ih =>
    obtain ⟨k, x⟩ := c
    rw [Sparse.put] at h
    split at h
    · simpa using h
    · split at h
      · rcases List.mem_cons.1 h with h | h
        · exact .inl h
        · exact .inr (List.mem_cons_of_mem _ h)
      · rcases List.mem_cons.1 h with h | h
        · exact .inr (h ▸ List.mem_cons_self)
        · exact (ih h).imp_right (List.mem_cons_of_mem _)

theorem Sparse.put_wf {α : Type} {m : Sparse α} (a : Nat) (v : α) (h : Sparse.wf m) : Sparse.wf (Sparse.put m a v) := by
  induction m with
  | nil => simp [Sparse.put]
  | cons c r ih =>
    obtain ⟨k, x⟩ := c
    have hr := List.pairwise_cons.1 h
    rw [Sparse.put]
    split
    · next hk =>
      refine List.pairwise_cons.2 ⟨fun e he => ?_, h⟩
      rcases List.mem_cons.1 he with rfl | he
      · exact hk
      · exact Nat.lt_trans hk (hr.1 e he)
    · next hk =>
      split
      · next hak => subst hak; exact List.pairwise_cons.2 ⟨hr.1, hr.2⟩
      · next hak =>
        refine List.pairwise_cons.2 ⟨fun e he => ?_, ih hr.2⟩
        rcases Sparse.mem_put he with rfl | he
        · simp only; omega
        · exact hr.1 e he

theorem Sparse.drop_wf {α : Type} {m : Sparse α} (a : Nat) (h : Sparse.wf m) : Sparse.wf (Sparse.drop m a) :=
  List.Pairwise.filter _ h

theorem Sparse.lookup_drop_same {α : Type} (m : Sparse α) (a : Nat) : Sparse.lookup (Sparse.drop m a) a = none := by
  induction m with
  | nil => rfl
  | cons c r ih =>
    obtain ⟨k, x⟩ := c
    unfold Sparse.drop at ih ⊢
    by_cases hk : k = a <;> simp [hk, Sparse.lookup, ih]

theorem Sparse.lookup_drop_other {α : Type} (m : Sparse α) {a b : Nat} (h : b ≠ a) :
    Sparse.lookup (Sparse.drop m a) b = Sparse.lookup m b := by
  induction m with
  | nil => rfl
  | cons c r ih =>
    obtain ⟨k, x⟩ := c
    unfold Sparse.drop at ih ⊢
    by_cases hk : k = a
    · subst hk; simp [Sparse.lookup, ih, Ne.symm h]
    · simp [hk, Sparse.lookup, ih]

/-- A value found in a table is an entry of it. -/
theorem Sparse.lookup_mem {α : Type} {m : Sparse α} {a : Nat} {v : α} (h : Sparse.lookup m a = some v) : (a, v) ∈ m := by
  induction m with
  | nil => simp [Sparse.lookup] at h
  | cons c r ih =>
    obtain ⟨k, x⟩ := c
    rw [Sparse.lookup] at h
    split at h
    · next hk => subst hk; simp_all
    · exact List.mem_cons_of_mem _ (ih h)

/-- A write inside the address space keeps the canonical form of sample RAM. -/
theorem Memory.put_wf {m : Memory} {a : Nat} (v : Byte) (h : Memory.wf m) (ha : a < Config.SAMPLE_RAM_BYTES) :
    Memory.wf (Sparse.put m a v) := by
  refine ⟨Sparse.put_wf a v h.1, fun c hc => ?_⟩
  rcases Sparse.mem_put hc with rfl | hc
  · exact ha
  · exact h.2 c hc

/-- SAMPLE_WRITE's memory operation keeps the canonical form of sample RAM. -/
theorem State.writeSample_ram_wf {s : State} {a : Nat} (v : Byte) (h : Memory.wf s.ram)
    (ha : a < Config.SAMPLE_RAM_BYTES) : Memory.wf (s.writeSample a v).ram := Memory.put_wf v h ha

theorem State.reset_ram_wf : Memory.wf State.reset.ram := ⟨List.Pairwise.nil, by simp [State.reset]⟩

theorem State.readSample_writeSample_same (s : State) (a : Nat) (v : Byte) :
    (s.writeSample a v).readSample a = some v := Sparse.lookup_put_same s.ram a v

theorem State.readSample_writeSample_other (s : State) {a b : Nat} (v : Byte) (h : b ≠ a) :
    (s.writeSample a v).readSample b = s.readSample b := Sparse.lookup_put_other s.ram v h

/-- What the magnitude computation answers: the magnitudes of written bytes, or the address of an unwritten one. -/
theorem magnitudes_cases (m : Memory) (n k : Nat) :
    (∃ ms, magnitudes m n k = .ok ms ∧ ms.length = n ∧
      ∀ i < n, ∃ x y, Sparse.lookup m (2 * (k + i)) = some x ∧ Sparse.lookup m (2 * (k + i) + 1) = some y ∧
        ms[i]? = some (magOf x y)) ∨
    (∃ a, magnitudes m n k = .error a ∧ Sparse.lookup m a = none ∧ 2 * k ≤ a ∧ a < 2 * (k + n)) := by
  induction n generalizing k with
  | zero => exact .inl ⟨[], rfl, rfl, by simp⟩
  | succ n ih =>
    rw [magnitudes]
    cases h1 : Sparse.lookup m (2 * k) with
    | none => exact .inr ⟨2 * k, rfl, h1, by omega, by omega⟩
    | some x =>
      cases h2 : Sparse.lookup m (2 * k + 1) with
      | none => exact .inr ⟨2 * k + 1, rfl, h2, by omega, by omega⟩
      | some y =>
        rcases ih (k + 1) with ⟨ms, hm, hl, hi⟩ | ⟨a, ha, hn, h3, h4⟩
        · refine .inl ⟨magOf x y :: ms, by simp [hm], by simp [hl], fun i hlt => ?_⟩
          cases i with
          | zero => exact ⟨x, y, by simpa using h1, by simpa using h2, rfl⟩
          | succ i =>
            obtain ⟨x', y', hx, hy, hz⟩ := hi i (by omega)
            exact ⟨x', y', by rw [← hx]; congr 1; omega, by rw [← hy]; congr 1; omega, by simpa using hz⟩
        · exact .inr ⟨a, by simp [ha], hn, by omega, by omega⟩

end Sys2Proof.Machine
end

