-- ==== Sys2Proof/Laws/Turns.lean ====
section
/-! SUPPORT. Whose turn the next transition is (log 1): a turn of the pipeline, said by the schedule or by its being empty,
is the same step, at the state with that turn taken off. -/

namespace Sys2Proof.Machine

theorem State.fetch_pipelinesTurn {s : State} (h : PipelinesTurn s) :
    s.fetch = { s with schedule := s.schedule.tail }.pipelineTurn := by
  rcases h with h | ⟨rest, h⟩
  · have : { s with schedule := s.schedule.tail } = s := by rw [h]; cases s; cases h; rfl
    rw [this]
    unfold State.fetch
    rw [h]
  · unfold State.fetch
    rw [h]
    rfl

/-- What step does at the pipeline's turn. -/
theorem step_pipelinesTurn {s : State} (h : PipelinesTurn s) :
    step s =
      match { s with schedule := s.schedule.tail }.pipelineTurn with
      | .done t => .next t
      | .run i t => exec i t := by
  have hf := State.fetch_pipelinesTurn h
  cases hp : { s with schedule := s.schedule.tail }.pipelineTurn <;> simp only [step, hf, hp]

/-- A running scan with no cancellation pending takes a scan step. -/
theorem ScansNext.fetch {s : State} (h : ScansNext s) : s.fetch = { s with schedule := s.schedule.tail }.scanStep := by
  rw [State.fetch_pipelinesTurn h.turn, State.pipelineTurn]
  simp [h.busy]

/-! ### The decode attempt -/

theorem errorCount_lt (bs : List (SliceBit × Bool)) : errorCount bs < 128 := by
  unfold errorCount
  have := List.countP_le_length (p := fun b : SliceBit × Bool => b.2) (l := bs.take 56)
  have h2 := List.length_take_le 56 bs
  omega

theorem errorCount_register (bs : List (SliceBit × Bool)) : (BitVec.ofNat 7 (errorCount bs)).toNat = errorCount bs := by
  have := errorCount_lt bs
  rw [BitVec.toNat_ofNat]
  omega

/-- What stages 1 to 5 of an attempt on window w can do: reject for too many error bits, reject for too little energy, or
pass the sliced frame on (41_preamble R184). -/
theorem State.attempt_eq (s : State) (w : List (BitVec 17)) (h : s.dp.win = w) :
    s.attempt =
      if (if s.regs.ctrl.getLsbD 0 then 2 else 0) < errorCount (sliceWindow w) then
        .done (State.reject { s with dp := { slicedDatapath w with fr := s.dp.fr, nbits := s.dp.nbits } } .rejErrBits)
      else if tooWeak 1275 (frameLen 16 (icao (frameOfWindow w) 1 5)) w = true then
        .done (State.reject { s with dp := slicedDatapath w } .rejEnergy)
      else .run (decodeReceived (frameOfWindow w)) { s with dp := slicedDatapath w } := by
  subst h
  rw [← errorCount_register (sliceWindow s.dp.win)]
  rfl

/-- A Scanning step whose preamble passes attempts the window at J. -/
theorem ScansNext.fetch_candidate {s : State} (h : ScansNext s) (hp : s.scan.pst = .scanning)
    (hm : preambleOk 4 s.magBehind = true) :
    s.fetch =
      State.attempt
        { s with
          schedule := s.schedule.tail
          scan := { s.scan with pst := .candidateFound }
          counters := Counters.addTo s.counters .preamble 1
          dp := { s.dp with win := windowAt s } } := by
  have hm' : preambleOk Config.QUIET_DIVISOR { s with schedule := s.schedule.tail }.magBehind = true := hm
  rw [h.fetch, State.scanStep]
  simp only [h.notCancelled, hp, hm', if_true, Bool.false_eq_true, if_false]
  rfl

/-- A Correcting step attempts the phase-corrected window at J. -/
theorem ScansNext.fetch_retry {s : State} (h : ScansNext s) (hp : s.scan.pst = .correcting) :
    s.fetch =
      State.attempt
        { s with
          schedule := s.schedule.tail
          counters := Counters.addTo s.counters .phaseRetry 1
          dp := { s.dp with win := phaseCorrect .high (windowAt s) } } := by
  rw [h.fetch, State.scanStep]
  simp only [h.notCancelled, hp, Bool.false_eq_true, if_false, reduceCtorEq]
  unfold State.correctWindow
  rw [if_pos (.inl rfl)]
  rfl

end Sys2Proof.Machine
end

