-- ==== Sys2Proof/Machine/Pseudo.lean ====
section
/-! DEFINITION. The pseudo-instructions of 30_encoding R115: expansions into commands, given as turns of the schedule. The
two loops are given as the next command they issue, none where they end. -/

namespace Sys2Proof.Machine

/-- The turn in which the host issues a command (30_encoding R114: an operand left out is 0). -/
def turnOf (i : Instr) : Option Turn :=
  match encode i with
  | .command w a b => some (.command w a b)
  | .short _ | .long _ | .squitter _ _ => none

/-- SAMPLES addr, bytes: one SAMPLE_WRITE per byte, in ascending address. DESIGN CHOICE (log 20): an address past
2^64 - 1, of which R115 says nothing, is taken modulo 2^64. -/
def samplesTurns (addr : Nat) : List Byte → List Turn
  | [] => []
  | b :: bs =>
    .command (commandWord 4 0) (BitVec.ofNat 64 addr) (b.setWidth 64) :: samplesTurns (addr + 1) bs

/-- HOME lat, lon, where ctrl is the CTRL value the assembler last wrote, or its reset value. -/
def homeTurns (lat lon : F64) (ctrl : U64) : List Turn :=
  [.command (commandWord 2 0x02) lat 0, .command (commandWord 2 0x03) lon 0,
    .command (commandWord 2 0x01) (ctrl ||| 4#64) 0]

/-- REG_READ STATUS, the command WAIT repeats. -/
def waitTurn : Turn := .command (commandWord 3 0x06) 0 0

/-- WAIT goes on while bit 0 of the STATUS value just read is 1. -/
def waitAgain (s : State) : Option Turn := if s.rsp.result.getLsbD 0 then some waitTurn else none

/-- MSG_POP, the command DRAIN repeats. -/
def drainTurn : Turn := .command (commandWord 9 0) 0 0

/-- DRAIN goes on until the status just returned is NONE. -/
def drainAgain (s : State) : Option Turn := if s.rsp.status = .none then none else some drainTurn

end Sys2Proof.Machine
end

