-- ==== Sys2Proof/Machine/Assembler.lean ====
section
/-! DEFINITION. The assembler of host programs (30_encoding R114), with the pseudo-instructions it expands (R115). A line
is a list of characters, and what it assembles to are turns of the schedule; the two loops stay items of their own, since
their length depends on the answers (log 20). -/

namespace Sys2Proof.Machine

/-- Why a line is not a line of a host program. -/
inductive AsmError where
  | unknownMnemonic
  | badOperand
  | tooManyOperands
  deriving DecidableEq, Repr

/-- What a line assembles to: commands, or one of the loops of R115. -/
inductive AsmItem where
  | turns (ts : List Turn)
  | wait
  | drain
  deriving DecidableEq, Repr

/-! ### Words of a line -/

/-- The pieces between separators. -/
def pieces (isSep : Char → Bool) : List Char → List (List Char)
  | [] => [[]]
  | c :: cs =>
    if isSep c then [] :: pieces isSep cs
    else
      match pieces isSep cs with
      | [] => [[c]]
      | w :: ws => (c :: w) :: ws

/-- A blank. -/
def isBlank (c : Char) : Bool := c == ' ' || c == '\t'

/-- The words of a text. -/
def wordsOf (cs : List Char) : List (List Char) := (pieces isBlank cs).filter (fun w => !w.isEmpty)

/-- The line without its comment, which `;` starts (R114). -/
def withoutComment (cs : List Char) : List Char := cs.takeWhile (fun c => c != ';')

/-- What follows the mnemonic. -/
def afterMnemonic (cs : List Char) : List Char := (cs.dropWhile isBlank).dropWhile (fun c => !isBlank c)

/-- The operands: the pieces between commas, none where there is nothing. -/
def operandsOf (cs : List Char) : List (List Char) :=
  if (wordsOf cs).isEmpty then [] else pieces (fun c => c == ',') cs

/-- The one word of an operand. -/
def oneWord (cs : List Char) : Except AsmError (List Char) :=
  match wordsOf cs with
  | [w] => .ok w
  | _ => .error .badOperand

/-! ### Values of operands -/

/-- The value of a digit. -/
def digitOf (c : Char) : Option Nat :=
  let n := c.toNat
  if 48 ≤ n ∧ n ≤ 57 then some (n - 48)
  else if 65 ≤ n ∧ n ≤ 70 then some (n - 55)
  else if 97 ≤ n ∧ n ≤ 102 then some (n - 87)
  else none

/-- The digits of a numeral in a base, after those read so far. -/
def digitsFrom (base : Nat) : Nat → List Char → Option Nat
  | acc, [] => some acc
  | acc, c :: cs =>
    match digitOf c with
    | some d => if d < base then digitsFrom base (acc * base + d) cs else none
    | none => none

/-- An integer: decimal, or hexadecimal with `0x` (R114). -/
def numeral : List Char → Option Nat
  | [] => none
  | '0' :: 'x' :: c :: cs => digitsFrom 16 0 (c :: cs)
  | c :: cs => digitsFrom 10 0 (c :: cs)

/-- A 64-bit operand. -/
def wordOperand (cs : List Char) : Except AsmError U64 :=
  match numeral cs with
  | some n => if n < 2 ^ 64 then .ok (BitVec.ofNat 64 n) else .error .badOperand
  | none => .error .badOperand

/-- A timestamp, written t=<ms> (R114). -/
def timeOperand : List Char → Except AsmError U64
  | 't' :: '=' :: cs => wordOperand cs
  | _ => .error .badOperand

/-- The names of the register map, in the order of their selectors (10_state R40): those from 0x00 on. -/
def registerNames : List (List Char) :=
  ["ID".toList, "CTRL".toList, "HOME_LAT".toList, "HOME_LON".toList, "MAX_RANGE_M".toList, "TRACK_TTL_MS".toList,
    "STATUS".toList, "LAST_TIME".toList, "LAST_ACCEPTED".toList, "SCAN_POS".toList, "FIFO_COUNT".toList,
    "TRACK_COUNT".toList]

/-- The names of the counters, from 0x20 on (10_state R46), after their prefix CNT_. -/
def counterNames : List (List Char) :=
  ["PREAMBLE".toList, "PHASE_RETRY".toList, "REJ_ERRBITS".toList, "REJ_ENERGY".toList, "DF_UNSUPPORTED".toList,
    "CRC_GOOD".toList, "FIX1".toList, "FIX2".toList, "CRC_BAD".toList, "AP_OK".toList, "AP_UNKNOWN".toList,
    "ACCEPTED".toList, "PHASE_GOOD".toList, "FIFO_OVERFLOW".toList, "TRACK_FULL".toList, "CPR_GLOBAL".toList,
    "CPR_LOCAL".toList, "CPR_RELATIVE".toList, "CPR_ZONE".toList, "CPR_BADLAT".toList, "CPR_FAR".toList,
    "CPR_REJ_RANGE".toList, "CPR_REJ_SPEED".toList, "TRACK_REMOVED".toList]

/-- The place of a name in a list of names. -/
def placeOf (w : List Char) : List (List Char) → Nat → Option Nat
  | [], _ => none
  | n :: ns, k => if n = w then some k else placeOf w ns (k + 1)

/-- A register operand: a name, or the number of a selector (95_test_vectors P5 line 7). -/
def registerOperand (cs : List Char) : Except AsmError (BitVec 8) :=
  let named :=
    match cs with
    | 'C' :: 'N' :: 'T' :: '_' :: w => placeOf w counterNames 0x20
    | w => placeOf w registerNames 0
  match named, numeral cs with
  | some k, _ => .ok (BitVec.ofNat 8 k)
  | none, some n => if n < 256 then .ok (BitVec.ofNat 8 n) else .error .badOperand
  | none, none => .error .badOperand

/-- The bytes of a text of hexadecimal digits, two a byte. -/
def hexBytes : List Char → Except AsmError (List Byte)
  | [] => .ok []
  | [_] => .error .badOperand
  | a :: b :: cs =>
    match digitsFrom 16 0 [a, b], hexBytes cs with
    | some n, .ok bs => .ok (BitVec.ofNat 8 n :: bs)
    | _, _ => .error .badOperand

/-- bits64 of a decimal numeral (R115): its digits after the point divided by the power of ten, rounded to binary64. -/
def decimalOperand (cs : List Char) : Except AsmError F64 :=
  let neg := cs.head? == some '-'
  let digits := if neg then cs.drop 1 else cs
  match pieces (fun c => c == '.') digits with
  | [i] =>
    match digitsFrom 10 0 i with
    | some n => if i.isEmpty then .error .badOperand else .ok (F64.round neg (n * F64.one) 1)
    | none => .error .badOperand
  | [i, f] =>
    match digitsFrom 10 0 (i ++ f) with
    | some n =>
      if i.isEmpty || f.isEmpty then .error .badOperand else .ok (F64.round neg (n * F64.one) (10 ^ f.length))
    | none => .error .badOperand
  | _ => .error .badOperand

/-! ### Commands -/

/-- Where an operand of a command goes (R111). -/
inductive OperandSlot where
  | selector
  | valueA
  | valueB
  | timeB
  deriving DecidableEq, Repr

/-- The opcode of a mnemonic and its operands in the order they are written (R111, R114). -/
def shapeOf (w : List Char) : Option (BitVec 8 × List OperandSlot) :=
  if w = "NOP".toList then some (0x00, [])
  else if w = "RESET".toList then some (0x01, [])
  else if w = "REG_WRITE".toList then some (0x02, [.selector, .valueA])
  else if w = "REG_READ".toList then some (0x03, [.selector])
  else if w = "SAMPLE_WRITE".toList then some (0x04, [.valueA, .valueB])
  else if w = "SAMPLE_READ".toList then some (0x05, [.valueA])
  else if w = "PROCESS".toList then some (0x06, [.valueA, .timeB])
  else if w = "CANCEL".toList then some (0x07, [])
  else if w = "SWEEP".toList then some (0x08, [.timeB])
  else if w = "MSG_POP".toList then some (0x09, [])
  else if w = "TRACK_READ".toList then some (0x0A, [.valueA])
  else if w = "TRACK_SLOT".toList then some (0x0B, [.valueA])
  else if w = "CACHE_INSERT".toList then some (0x0C, [.valueA, .timeB])
  else if w = "CACHE_QUERY".toList then some (0x0D, [.valueA, .timeB])
  else none

/-- A command under assembly: its selector and its operands. -/
structure AsmOperands where
  sel : BitVec 8
  a : U64
  b : U64
  deriving DecidableEq, Repr

/-- One operand put into its slot. -/
def AsmOperands.put (o : AsmOperands) (w : List Char) : OperandSlot → Except AsmError AsmOperands
  | .selector =>
    match registerOperand w with
    | .ok v => .ok { o with sel := v }
    | .error e => .error e
  | .valueA =>
    match wordOperand w with
    | .ok v => .ok { o with a := v }
    | .error e => .error e
  | .valueB =>
    match wordOperand w with
    | .ok v => .ok { o with b := v }
    | .error e => .error e
  | .timeB =>
    match timeOperand w with
    | .ok v => .ok { o with b := v }
    | .error e => .error e

/-- The operands of a line in the slots of its command, in the order they are written; an omitted operand is 0 (R114).
DESIGN CHOICE (log 20): R114 does not say which operand a line omits, and here only the last ones can be missing, so that
`PROCESS t=1000` is no line. -/
def AsmOperands.fill (o : AsmOperands) : List OperandSlot → List (List Char) → Except AsmError AsmOperands
  | _, [] => .ok o
  | [], _ :: _ => .error .tooManyOperands
  | slot :: slots, cs :: rest =>
    match oneWord cs with
    | .error e => .error e
    | .ok w =>
      match o.put w slot with
      | .error e => .error e
      | .ok o' => o'.fill slots rest

/-- The CTRL value the assembler knows after a command (R115): the last one written, accepted or not (log 20). -/
def ctrlAfter (op : BitVec 8) (o : AsmOperands) (ctrl : U64) : U64 :=
  if op = 0x01 then Regs.reset.ctrl else if op = 0x02 ∧ o.sel = 0x01 then o.a else ctrl

/-! ### Lines and programs -/

/-- SAMPLES addr, hex bytes (R114, R115). DESIGN CHOICE (log 20): R114 does not say how blanks part the bytes, and here
they do not: the words after the comma are joined before their digits are paired, so that `SAMPLES 0, 1 2` writes the one
byte 0x12; and SAMPLES with an operand left out is no line. -/
def assembleSamples : List (List Char) → Except AsmError AsmItem
  | [addr, bytes] =>
    match oneWord addr with
    | .error e => .error e
    | .ok w =>
      match wordOperand w, hexBytes (wordsOf bytes).flatten with
      | .ok a, .ok bs => .ok (.turns (samplesTurns a.toNat bs))
      | .error e, _ => .error e
      | .ok _, .error e => .error e
  | _ => .error .badOperand

/-- HOME lat, lon (R115). DESIGN CHOICE (log 20): R114's 0 for an omitted operand is about a command, and R115 is silent;
here HOME with an operand left out is no line. -/
def assembleHome (ctrl : U64) : List (List Char) → Except AsmError AsmItem
  | [lat, lon] =>
    match oneWord lat, oneWord lon with
    | .ok x, .ok y =>
      match decimalOperand x, decimalOperand y with
      | .ok u, .ok v => .ok (.turns (homeTurns u v ctrl))
      | _, _ => .error .badOperand
    | _, _ => .error .badOperand
  | _ => .error .badOperand

/-- A command line. -/
def assembleCommand (ctrl : U64) (w : List Char) (ops : List (List Char)) : Except AsmError (AsmItem × U64) :=
  match shapeOf w with
  | none => .error .unknownMnemonic
  | some (op, slots) =>
    match (⟨0, 0, 0⟩ : AsmOperands).fill slots ops with
    | .error e => .error e
    | .ok o => .ok (.turns [.command (commandWord op o.sel) o.a o.b], ctrlAfter op o ctrl)

/-- The item of a loop, which has no operand. -/
def assembleLoop (i : AsmItem) (ctrl : U64) : List (List Char) → Except AsmError (AsmItem × U64)
  | [] => .ok (i, ctrl)
  | _ :: _ => .error .tooManyOperands

/-- A line with its comment taken off, where the assembler last wrote ctrl to CTRL. DESIGN CHOICE (log 20): R114 names no
empty line; here a line without a word is one, and assembles to no command. -/
def assembleText (ctrl : U64) (cs : List Char) : Except AsmError (AsmItem × U64) :=
  match wordsOf cs with
  | [] => .ok (.turns [], ctrl)
  | w :: _ =>
    let ops := operandsOf (afterMnemonic cs)
    if w = "SAMPLES".toList then (assembleSamples ops).map (fun i => (i, ctrl))
    else if w = "HOME".toList then (assembleHome ctrl ops).map (fun i => (i, ctrl ||| 4#64))
    else if w = "WAIT".toList then assembleLoop .wait ctrl ops
    else if w = "DRAIN".toList then assembleLoop .drain ctrl ops
    else assembleCommand ctrl w ops

/-- A line of a host program. -/
def assembleLine (ctrl : U64) (cs : List Char) : Except AsmError (AsmItem × U64) := assembleText ctrl (withoutComment cs)

/-- The lines of a host program from one of them on, where the assembler last wrote ctrl to CTRL. -/
def assembleFrom : U64 → List (List Char) → Except AsmError (List AsmItem)
  | _, [] => .ok []
  | ctrl, l :: ls =>
    match assembleLine ctrl l with
    | .error e => .error e
    | .ok (i, ctrl') =>
      match assembleFrom ctrl' ls with
      | .error e => .error e
      | .ok is => .ok (i :: is)

/-- A host program (R114). -/
def assemble (ls : List (List Char)) : Except AsmError (List AsmItem) := assembleFrom Regs.reset.ctrl ls

/-- The turns of a program without loops: what is put into the schedule to run it (log 1). -/
def straightTurns : List AsmItem → Option (List Turn)
  | [] => some []
  | .turns ts :: is => (straightTurns is).map (fun rest => ts ++ rest)
  | .wait :: _ => none
  | .drain :: _ => none

end Sys2Proof.Machine
end

