-- ==== Sys2Proof/Tests/Slice0.lean ====
section
/-! SUPPORT. Tests: ill-formed instructions, one word per instruction written from its encoding, vectors of
95_test_vectors, and for each statement with hypotheses a state and operands that meet them. -/

namespace Sys2Proof.Tests

open Sys2Proof Sys2Proof.Machine

set_option Elab.async false

/-- The next state an outcome holds, if any. -/
def nextOf : Result → Option State
  | .next t => some t
  | .fault _ => none
  | .refused _ => none

/-! ### Ill-formed instructions -/

/-- A word that is not reserved is no RESERVED_CMD (30_encoding R113). -/
theorem test_wf_refuses_reservedCmd_of_a_legal_word : (Instr.reservedCmd 0x00003702).wf = false := by decide

/-- A correction past the frame (43_checksum R224). -/
theorem test_wf_refuses_a_fix_past_the_frame :
    (Instr.meTc28Other ⟨17, 5, 0x4840D6, 0xDE52AB, .single 112⟩ ⟨1, 0⟩).wf = false := by decide

/-- A double correction out of order (10_state R51). -/
theorem test_wf_refuses_a_double_fix_out_of_order :
    (Instr.meTc28Other ⟨17, 5, 0x4840D6, 0xDE52AB, .double 70 20⟩ ⟨1, 0⟩).wf = false := by decide

/-- An ME message of a frame received as DF 18 (43_checksum R227). -/
theorem test_wf_refuses_another_downlink_format :
    (Instr.meTc28Other ⟨18, 5, 0x4840D6, 0xDE52AB, .none⟩ ⟨1, 0⟩).wf = false := by decide

/-- The decoder rejects by name. -/
theorem test_decode_rejects_by_name :
    decode (.short 0x8D4840D6202CC3) = .error .longFormatInShortFrame ∧
      decode (.long 0x5D4840D6F8740F00000000000000) = .error .shortFormatInLongFrame ∧
      decode (.squitter .none 0x954840D6E1000000000000DE52AB) = .error .notExtendedSquitter ∧
      decode (.squitter (.single 112) 0x8D4840D6E1000000000000DE52AB) = .error .fixOutsideFrame ∧
      decodeTable 16 0 = .error .noRowOfThisWidth := by decide

/-! ### One word per instruction, written from the layouts of 30_encoding R110 to R134 -/

theorem test_decode_nop :
  decode (.command 0x00000000 77 99) = .ok .nop := by decide

theorem test_decode_reset :
  decode (.command 0x00000001 77 99) = .ok .reset := by decide

theorem test_decode_regWrite :
  decode (.command 0x00000202 77 99) = .ok (.regWrite 2 77) := by decide

theorem test_decode_regRead :
  decode (.command 0x00003703 77 99) = .ok (.regRead 55) := by decide

theorem test_decode_sampleWrite :
  decode (.command 0x00000004 77 99) = .ok (.sampleWrite 77 99) := by decide

theorem test_decode_sampleRead :
  decode (.command 0x00000005 77 99) = .ok (.sampleRead 77) := by decide

theorem test_decode_process :
  decode (.command 0x00000006 77 99) = .ok (.process 77 99) := by decide

theorem test_decode_cancel :
  decode (.command 0x00000007 77 99) = .ok .cancel := by decide

theorem test_decode_sweep :
  decode (.command 0x00000008 77 99) = .ok (.sweep 99) := by decide

theorem test_decode_msgPop :
  decode (.command 0x00000009 77 99) = .ok .msgPop := by decide

theorem test_decode_trackRead :
  decode (.command 0x0000000A 77 99) = .ok (.trackRead 77) := by decide

theorem test_decode_trackSlot :
  decode (.command 0x0000000B 77 99) = .ok (.trackSlot 77) := by decide

theorem test_decode_cacheInsert :
  decode (.command 0x0000000C 77 99) = .ok (.cacheInsert 77 99) := by decide

theorem test_decode_cacheQuery :
  decode (.command 0x0000000D 77 99) = .ok (.cacheQuery 77 99) := by decide

theorem test_decode_reservedCmd :
  decode (.command 0x0000000E 77 99) = .ok (.reservedCmd 0x0000000E) := by decide

theorem test_decode_df0ShortAirAir :
  decode (.short 0x0501C3B66DECEB) =
    .ok (.df0ShortAirAir ⟨1, 0, 1, 0, 0, 3, 2, 950, 0x6DECEB⟩) := by decide

theorem test_decode_df1Unsupported :
  decode (.short 0x09600A099950D8) =
    .ok (.df1Unsupported 0x1600A099950D8) := by decide

theorem test_decode_df2Unsupported :
  decode (.short 0x16B0D56F03675A) =
    .ok (.df2Unsupported 0x6B0D56F03675A) := by decide

theorem test_decode_df3Unsupported :
  decode (.short 0x1BD9C111E20B8F) =
    .ok (.df3Unsupported 0x3D9C111E20B8F) := by decide

theorem test_decode_df4SurvAlt :
  decode (.short 0x21D8E7EC724C60) =
    .ok (.df4SurvAlt ⟨1, 27, 7, 0x7EC, 0x724C60⟩) := by decide

theorem test_decode_df5SurvId :
  decode (.short 0x28C8CE2617D9AF) =
    .ok (.df5SurvId ⟨0, 25, 6, 0xE26, 0x17D9AF⟩) := by decide

theorem test_decode_df6Unsupported :
  decode (.short 0x34A23D2217BEAD) =
    .ok (.df6Unsupported 0x4A23D2217BEAD) := by decide

theorem test_decode_df7Unsupported :
  decode (.short 0x3A4EDE6B4CB242) =
    .ok (.df7Unsupported 0x24EDE6B4CB242) := by decide

theorem test_decode_df8Unsupported :
  decode (.short 0x41E27A8A6A63EC) =
    .ok (.df8Unsupported 0x1E27A8A6A63EC) := by decide

theorem test_decode_df9Unsupported :
  decode (.short 0x4CEF8A92276658) =
    .ok (.df9Unsupported 0x4EF8A92276658) := by decide

theorem test_decode_df10Unsupported :
  decode (.short 0x52E441AE97BA94) =
    .ok (.df10Unsupported 0x2E441AE97BA94) := by decide

theorem test_decode_df11AllCall :
  decode (.short 0x596030A1BEAAE4) =
    .ok (.df11AllCall ⟨1, 0x6030A1, 0xBEAAE4⟩) := by decide

theorem test_decode_df12Unsupported :
  decode (.short 0x61012FB64CE422) =
    .ok (.df12Unsupported 0x1012FB64CE422) := by decide

theorem test_decode_df13Unsupported :
  decode (.short 0x68F420907A70C3) =
    .ok (.df13Unsupported 0xF420907A70C3) := by decide

theorem test_decode_df14Unsupported :
  decode (.short 0x734B9B9E7769B1) =
    .ok (.df14Unsupported 0x34B9B9E7769B1) := by decide

theorem test_decode_df15Unsupported :
  decode (.short 0x7ED76B881ED162) =
    .ok (.df15Unsupported 0x6D76B881ED162) := by decide

theorem test_decode_df16LongAirAir :
  decode (.long 0x87F4AB8129E8E63E7D1BFB99BA40) =
    .ok (.df16LongAirAir ⟨1, 3, 7, 2, 9, 1, 0xB81, 0x29E8E63E7D1BFB, 0x99BA40⟩) := by decide

theorem test_decode_df17ExtSquitter :
  decode (.long 0x8FAFDC0BE5CD98BABCED20936C94) =
    .ok (.df17ExtSquitter ⟨7, 0xAFDC0B, 0xE5CD98BABCED20, 0x936C94⟩) := by decide

theorem test_decode_df18Unsupported :
  decode (.long 0x91E312BD4ACEFAECBD389BE4BCFC) =
    .ok (.df18Unsupported 0x1E312BD4ACEFAECBD389BE4BCFC) := by decide

theorem test_decode_df19Unsupported :
  decode (.long 0x9FD2EEEACBE226E875555790F82E) =
    .ok (.df19Unsupported 0x7D2EEEACBE226E875555790F82E) := by decide

theorem test_decode_df20CommbAlt :
  decode (.long 0xA6113414E993BECC011CDD2334E5) =
    .ok (.df20CommbAlt ⟨6, 2, 9, 0x1414, 0xE993BECC011CDD, 0x2334E5⟩) := by decide

theorem test_decode_df21CommbId :
  decode (.long 0xA98F84289E84DBB394FB36E42B06) =
    .ok (.df21CommbId ⟨1, 17, 60, 0x428, 0x9E84DBB394FB36, 0xE42B06⟩) := by decide

theorem test_decode_df22Unsupported :
  decode (.long 0xB37D0F17A3007E62AA0A1DF9FD78) =
    .ok (.df22Unsupported 0x37D0F17A3007E62AA0A1DF9FD78) := by decide

theorem test_decode_df23Unsupported :
  decode (.long 0xBAA914A0F9E77F1B103CDF1582B0) =
    .ok (.df23Unsupported 0x2A914A0F9E77F1B103CDF1582B0) := by decide

theorem test_decode_df24CommD :
  decode (.long 0xFEDC6DD1BC52D9230D977E8E8D34) =
    .ok (.df24CommD ⟨7, 6, 0xDC6DD1BC52D9230D977E, 0x8E8D34⟩) := by decide

theorem test_decode_meTc0NoPosition :
  decode (.squitter .none 0x8EB7B0DA032A7C26A2C0BDC2C933) =
    .ok (.meTc0NoPosition ⟨17, 6, 0xB7B0DA, 0xC2C933, .none⟩
      ⟨3, 0x2A7C26A2C0BD⟩) := by decide

theorem test_decode_meTc1Identification :
  decode (.squitter .none 0x8A4D76FB0BF84D0316909E76C30C) =
    .ok (.meTc1Identification ⟨17, 2, 0x4D76FB, 0x76C30C, .none⟩
      ⟨3, 0xF84D0316909E⟩) := by decide

theorem test_decode_meTc2Identification :
  decode (.squitter .none 0x8A8686B910D680254B0C4E905939) =
    .ok (.meTc2Identification ⟨17, 2, 0x8686B9, 0x905939, .none⟩
      ⟨0, 0xD680254B0C4E⟩) := by decide

theorem test_decode_meTc3Identification :
  decode (.squitter .none 0x8DA3211118C8E58F2C6EC840406C) =
    .ok (.meTc3Identification ⟨17, 5, 0xA32111, 0x40406C, .none⟩
      ⟨0, 0xC8E58F2C6EC8⟩) := by decide

theorem test_decode_meTc4Identification :
  decode (.squitter .none 0x8ECC46F4211FDE66836886C9CA19) =
    .ok (.meTc4Identification ⟨17, 6, 0xCC46F4, 0xC9CA19, .none⟩
      ⟨1, 0x1FDE66836886⟩) := by decide

theorem test_decode_meTc5SurfacePosition :
  decode (.squitter .none 0x8B227B622F01C8D1AC003D6AE302) =
    .ok (.meTc5SurfacePosition ⟨17, 3, 0x227B62, 0x6AE302, .none⟩
      ⟨112, 0, 28, 1, 0, 0x68D6, 61⟩) := by decide

theorem test_decode_meTc6SurfacePosition :
  decode (.squitter .none 0x8A33F32330635A049F63BABA2B14) =
    .ok (.meTc6SurfacePosition ⟨17, 2, 0x33F323, 0xBA2B14, .none⟩
      ⟨6, 0, 53, 1, 0, 0x1024F, 0x163BA⟩) := by decide

theorem test_decode_meTc7SurfacePosition :
  decode (.squitter .none 0x8DF2C3FB39DF7E7EAC57F23EE52D) =
    .ok (.meTc7SurfacePosition ⟨17, 5, 0xF2C3FB, 0x3EE52D, .none⟩
      ⟨29, 1, 119, 1, 1, 0x13F56, 0x57F2⟩) := by decide

theorem test_decode_meTc8SurfacePosition :
  decode (.squitter .none 0x8A3451EF443A92E4DE961EAF6DF6) =
    .ok (.meTc8SurfacePosition ⟨17, 2, 0x3451EF, 0xAF6DF6, .none⟩
      ⟨67, 1, 41, 0, 0, 0x1726F, 0x961E⟩) := by decide

theorem test_decode_meTc9AirbornePositionBaro :
  decode (.squitter .none 0x88989F364D558AA326E4652E98EF) =
    .ok (.meTc9AirbornePositionBaro ⟨17, 0, 0x989F36, 0x2E98EF, .none⟩
      ⟨2, 1, 0x558, 1, 0, 0x15193, 0xE465⟩) := by decide

theorem test_decode_meTc10AirbornePositionBaro :
  decode (.squitter .none 0x8B7A910552FC4839371E1FCD2680) =
    .ok (.meTc10AirbornePositionBaro ⟨17, 3, 0x7A9105, 0xCD2680, .none⟩
      ⟨1, 0, 0xFC4, 1, 0, 0x1C9B, 0x11E1F⟩) := by decide

theorem test_decode_meTc11AirbornePositionBaro :
  decode (.squitter .none 0x8F84B2805DB2F9C380689B63256E) =
    .ok (.meTc11AirbornePositionBaro ⟨17, 7, 0x84B280, 0x63256E, .none⟩
      ⟨2, 1, 0xB2F, 1, 0, 0xE1C0, 0x689B⟩) := by decide

theorem test_decode_meTc12AirbornePositionBaro :
  decode (.squitter .none 0x8BF0AE5264F716C08656D064B6AB) =
    .ok (.meTc12AirbornePositionBaro ⟨17, 3, 0xF0AE52, 0x64B6AB, .none⟩
      ⟨2, 0, 0xF71, 0, 1, 0x16043, 0x56D0⟩) := by decide

theorem test_decode_meTc13AirbornePositionBaro :
  decode (.squitter .none 0x89C6EE286EDE2B2AADDA46660D31) =
    .ok (.meTc13AirbornePositionBaro ⟨17, 1, 0xC6EE28, 0x660D31, .none⟩
      ⟨3, 0, 0xDE2, 1, 0, 0x19556, 0x1DA46⟩) := by decide

theorem test_decode_meTc14AirbornePositionBaro :
  decode (.squitter .none 0x8E2B7A89720E152B5DE5BD515594) =
    .ok (.meTc14AirbornePositionBaro ⟨17, 6, 0x2B7A89, 0x515594, .none⟩
      ⟨1, 0, 225, 0, 1, 0x95AE, 0x1E5BD⟩) := by decide

theorem test_decode_meTc15AirbornePositionBaro :
  decode (.squitter .none 0x8D4FD3C07834958EF6D81B431050) =
    .ok (.meTc15AirbornePositionBaro ⟨17, 5, 0x4FD3C0, 0x431050, .none⟩
      ⟨0, 0, 841, 0, 1, 0xC77B, 0xD81B⟩) := by decide

theorem test_decode_meTc16AirbornePositionBaro :
  decode (.squitter .none 0x8880F07E84A6ED0C703E5D6CF179) =
    .ok (.meTc16AirbornePositionBaro ⟨17, 0, 0x80F07E, 0x6CF179, .none⟩
      ⟨2, 0, 0xA6E, 1, 1, 0x8638, 0x3E5D⟩) := by decide

theorem test_decode_meTc17AirbornePositionBaro :
  decode (.squitter .none 0x8DEA94138A0998080C9965D75C96) =
    .ok (.meTc17AirbornePositionBaro ⟨17, 5, 0xEA9413, 0xD75C96, .none⟩
      ⟨1, 0, 153, 1, 0, 0x406, 0x9965⟩) := by decide

theorem test_decode_meTc18AirbornePositionBaro :
  decode (.squitter .none 0x8A487A6A90A6E8745EFE75F26DAA) =
    .ok (.meTc18AirbornePositionBaro ⟨17, 2, 0x487A6A, 0xF26DAA, .none⟩
      ⟨0, 0, 0xA6E, 1, 0, 0x3A2F, 0xFE75⟩) := by decide

theorem test_decode_meTc19St0Reserved :
  decode (.squitter .none 0x8B8DC81398320BC5B2E75A159B17) =
    .ok (.meTc19St0Reserved ⟨17, 3, 0x8DC813, 0x159B17, .none⟩
      0x320BC5B2E75A) := by decide

theorem test_decode_meTc19St1VelocityGround :
  decode (.squitter .none 0x8F0E446B99DF9EBF77299F2071E1) =
    .ok (.meTc19St1VelocityGround ⟨17, 7, 0xE446B, 0x2071E1, .none⟩
      ⟨1, 1, 3, 1, 926, 1, 507, 1, 0, 458, 1, 1, 31⟩) := by decide

theorem test_decode_meTc19St2VelocityGround :
  decode (.squitter .none 0x8EE25D4D9A31B39F4A4A77A1C81A) =
    .ok (.meTc19St2VelocityGround ⟨17, 6, 0xE25D4D, 0xA1C81A, .none⟩
      ⟨0, 0, 6, 0, 435, 1, 250, 0, 1, 146, 2, 0, 119⟩) := by decide

theorem test_decode_meTc19St3VelocityAirspeed :
  decode (.squitter .none 0x8B3031359B9B73D6D5B65DCBE853) =
    .ok (.meTc19St3VelocityAirspeed ⟨17, 3, 0x303135, 0xCBE853, .none⟩
      ⟨1, 0, 3, 0, 883, 1, 694, 1, 0, 365, 2, 0, 93⟩) := by decide

theorem test_decode_meTc19St4VelocityAirspeed :
  decode (.squitter .none 0x88AD0BAC9CB65D1CE15A8AEAD6E5) =
    .ok (.meTc19St4VelocityAirspeed ⟨17, 0, 0xAD0BAC, 0xEAD6E5, .none⟩
      ⟨1, 0, 6, 1, 605, 0, 231, 0, 0, 86, 2, 1, 10⟩) := by decide

theorem test_decode_meTc19St5Reserved :
  decode (.squitter .none 0x8A8A77E99DD831D1DCEC5342551B) =
    .ok (.meTc19St5Reserved ⟨17, 2, 0x8A77E9, 0x42551B, .none⟩
      0xD831D1DCEC53) := by decide

theorem test_decode_meTc19St6Reserved :
  decode (.squitter .none 0x8CCFD8649E2DCD53B973774C79F4) =
    .ok (.meTc19St6Reserved ⟨17, 4, 0xCFD864, 0x4C79F4, .none⟩
      0x2DCD53B97377) := by decide

theorem test_decode_meTc19St7Reserved :
  decode (.squitter .none 0x8C1D741D9F89B01289BAFA5DDF44) =
    .ok (.meTc19St7Reserved ⟨17, 4, 0x1D741D, 0x5DDF44, .none⟩
      0x89B01289BAFA) := by decide

theorem test_decode_meTc20AirbornePositionGnss :
  decode (.squitter .none 0x882D5883A0221BA1540BD285670E) =
    .ok (.meTc20AirbornePositionGnss ⟨17, 0, 0x2D5883, 0x85670E, .none⟩
      ⟨0, 0, 545, 1, 0, 0x1D0AA, 0xBD2⟩) := by decide

theorem test_decode_meTc21AirbornePositionGnss :
  decode (.squitter .none 0x8DD5E4AEAA7A12185C33968924E9) =
    .ok (.meTc21AirbornePositionGnss ⟨17, 5, 0xD5E4AE, 0x8924E9, .none⟩
      ⟨1, 0, 0x7A1, 0, 0, 0x10C2E, 0x3396⟩) := by decide

theorem test_decode_meTc22AirbornePositionGnss :
  decode (.squitter .none 0x8A674E2AB4947A2A0763549FBD77) =
    .ok (.meTc22AirbornePositionGnss ⟨17, 2, 0x674E2A, 0x9FBD77, .none⟩
      ⟨2, 0, 0x947, 1, 0, 0x11503, 0x16354⟩) := by decide

theorem test_decode_meTc23Other :
  decode (.squitter .none 0x88803AD1B86100FA61977412EB06) =
    .ok (.meTc23Other ⟨17, 0, 0x803AD1, 0x12EB06, .none⟩
      ⟨0, 0x6100FA619774⟩) := by decide

theorem test_decode_meTc24Other :
  decode (.squitter .none 0x8F7DC9B4C1DD46A66D58B5E4E477) =
    .ok (.meTc24Other ⟨17, 7, 0x7DC9B4, 0xE4E477, .none⟩
      ⟨1, 0xDD46A66D58B5⟩) := by decide

theorem test_decode_meTc25Other :
  decode (.squitter .none 0x8FC94293CB7589FB8139219D95BD) =
    .ok (.meTc25Other ⟨17, 7, 0xC94293, 0x9D95BD, .none⟩
      ⟨3, 0x7589FB813921⟩) := by decide

theorem test_decode_meTc26Other :
  decode (.squitter .none 0x8D65B21BD6B1F2FD4BD030478939) =
    .ok (.meTc26Other ⟨17, 5, 0x65B21B, 0x478939, .none⟩
      ⟨6, 0xB1F2FD4BD030⟩) := by decide

theorem test_decode_meTc27Other :
  decode (.squitter .none 0x88427794D982DDE13E213E074C72) =
    .ok (.meTc27Other ⟨17, 0, 0x427794, 0x74C72, .none⟩
      ⟨1, 0x82DDE13E213E⟩) := by decide

theorem test_decode_meTc28Other :
  decode (.squitter .none 0x8E53950CE19059F88EDE101C5D88) =
    .ok (.meTc28Other ⟨17, 6, 0x53950C, 0x1C5D88, .none⟩
      ⟨1, 0x9059F88EDE10⟩) := by decide

theorem test_decode_meTc29Other :
  decode (.squitter .none 0x8B960BC3EF50A82F733B0517295E) =
    .ok (.meTc29Other ⟨17, 3, 0x960BC3, 0x17295E, .none⟩
      ⟨7, 0x50A82F733B05⟩) := by decide

theorem test_decode_meTc30Other :
  decode (.squitter .none 0x8CE4431FF47D2852D31E1B01DAD6) =
    .ok (.meTc30Other ⟨17, 4, 0xE4431F, 0x1DAD6, .none⟩
      ⟨4, 0x7D2852D31E1B⟩) := by decide

theorem test_decode_meTc31Other :
  decode (.squitter .none 0x889E7D10FD008C2ED654116F8C1D) =
    .ok (.meTc31Other ⟨17, 0, 0x9E7D10, 0x6F8C1D, .none⟩
      ⟨5, 0x8C2ED65411⟩) := by decide

/-! ### Table words -/

/-- A lone byte 0 of a frame, a byte 4 of a DF17 frame, and whole words (log 15). -/
theorem test_table_words :
    decodeTableWord 8 0x28 = some (.df5SurvId ⟨0, 0, 0, 0, 0⟩) ∧
      (decodeTableWord 8 0x9B).map encode = some (.squitter .none 0x880000009B000000000000855486) ∧
      decodeTableWord 32 0x3703 = some (.regRead 0x37) ∧
      decodeTableWord 56 0x0F74F8D640485D = some (.df11AllCall ⟨5, 0x4840D6, 0xF8740F⟩) := by decide +kernel

/-- The step after reset runs the command, and the frame, that withFetchWord places (log 16). -/
theorem test_fetch_word_runs :
    nextOf (step (State.reset.withFetchWord 32 0x0603)) = some State.reset ∧
      (nextOf (step (State.reset.withFetchWord 56 0x0F74F8D640485D))).map
          (fun t => (t.scan.j, t.scan.acc, t.status.busy, t.tracks.length, cacheSlot t.cache 518)) =
        some (128, 1, false, 1, ⟨0x4840D6, 0⟩) := by decide +kernel

/-! ### Vectors of 95_test_vectors -/

/-- Section 3.1. -/
theorem test_magnitudes :
    magOf 127 127 = 0 ∧ magOf 126 127 = 360 ∧ magOf 124 123 = 1800 ∧ magOf 127 255 = 46080 ∧ magOf 0 255 = 64913 ∧
      magOf 255 255 = 65167 ∧ magOf 200 50 = 38197 := by decide +kernel

/-- A preamble window of section 3.2. -/
def preambleWindow (l : List Nat) (x : Nat) : Nat := l.getD x 0

/-- Section 3.2: PA9, PA10, PA11 and PA13. -/
theorem test_preamble :
    preambleOk 4 (preambleWindow [4000, 0, 1000, 0, 2499, 0, 0, 2000, 0, 3001]) = true ∧
      preambleOk 4 (preambleWindow [4000, 0, 1000, 0, 2500, 0, 0, 2000, 0, 3001]) = false ∧
      preambleOk 6 (preambleWindow [4000, 0, 1000, 0, 2499, 0, 0, 2000, 0, 3001]) = false ∧
      preambleOk 4 (preambleWindow [46080, 0, 46080, 0, 0, 0, 0, 46080, 0, 0]) = false := by decide

/-- Section 3.3: the worked example, for both targets. -/
theorem test_phase_correction :
    phaseData .high [1000, 200, 300, 900, 800, 800] = [1000, 200, 300, 1125, 800, 640] ∧
      phaseData .low [1000, 200, 300, 900, 800, 800] = [1000, 200, 375, 900, 640, 800] := by decide +kernel

/-- 42_bitslicer R201: a copy, an error sample at bit 0, and a fresh bit. -/
theorem test_slicer :
    sliceFrom none [500, 500, 600, 500, 500, 800] = [(.err, true), (.err, false), (.zero, false)] := by
  decide +kernel

/-- Section 1: checksums that match, and the address in a DF5 frame. -/
theorem test_checksums :
    checksum (0x8D4840D6202CC371C32CE0576098 : BitVec 112) = 0x576098 ∧
      checksum (0x5D4840D6F8740F : BitVec 56) = 0xF8740F ∧ syndrome (0x28000A800349D8 : BitVec 56) = 0x4840D6 ∧
      syndrome (0xD800000000000000000000D6A3AD : BitVec 112) = 0x4840D6 := by decide +kernel

/-- Section 3.6: K0, K111, Q31, W1 and W4. -/
theorem test_corrections :
    fix1 (0x0D4840D6202CC371C32CE0576098 : BitVec 112) = some 0 ∧
      fix1 (0x8D4840D6202CC371C32CE0576099 : BitVec 112) = some 111 ∧
      fix1 (0x5D4840D7F8740F : BitVec 56) = some 31 ∧
      fix2 (0x8D4848D6202CC371C12CE0576098 : BitVec 112) = some (20, 70) ∧
      fix2 (0x8D4840D6202CC371C32CE057609B : BitVec 112) = some (110, 111) ∧
      fix1 (0x8D4840D6202CC371C32CE057609B : BitVec 112) = none := by decide +kernel

/-- Section 1: hash slots. -/
theorem test_hash : cacheHash 0x4840D6 = 518 ∧ cacheHash 0xA05F21 = 811 ∧ cacheHash 0x000497 = 518 := by
  decide +kernel

/-- Sections 4.1 to 4.3. -/
theorem test_codes :
    squawkOf 0x0808 = 1200 ∧ squawkOf 0x1C09 = 1234 ∧ squawkOf 0x0AA2 = 7500 ∧ squawkOf 0x1FBF = 7777 ∧
      ac13 0x0010 = some (-1000) ∧ ac13 0x1838 = some 38000 ∧ ac13 0x1FBF = some 50175 ∧ ac13 0x0050 = none ∧
      ac12 0xC38 = some 38000 ∧ ac12 0x010 = some (-1000) ∧ ac12 0 = none := by decide +kernel

/-- Section 1: the flight of KLM. -/
theorem test_flight : flightOf 0x2CC371C32CE0 = ['K', 'L', 'M', '1', '0', '2', '3', ' '] := by decide +kernel

/-- Section 1: movement 57 is 33 kt. -/
theorem test_movement : movementOf 57 = some 0x4040800000000000 ∧ movementOf 125 = none := by decide +kernel

/-- Section 1: VEL1 over ground, but for its track (trig), and its vertical rate. -/
theorem test_ground_velocity :
    velEw false (VelocityGround.ofFrame 0x8D485020994409940838175B284F) = -8 ∧
      velNs false (VelocityGround.ofFrame 0x8D485020994409940838175B284F) = -159 ∧
      groundSpeed (-8) (-159) = 0x4063E66FA98B1840 ∧ vertRate 1 14 = some (-832) := by decide +kernel

/-- Section 1: VEL3. -/
theorem test_airspeed :
    (velocityAirPayload 3 false (VelocityAir.ofFrame 0x8DA05F219B06B6AF189400CBC33F)).headingDeg =
        some 0x406E7F8000000000 ∧
      (velocityAirPayload 3 false (VelocityAir.ofFrame 0x8DA05F219B06B6AF189400CBC33F)).airspeedKt = some 375 ∧
      (velocityAirPayload 3 false (VelocityAir.ofFrame 0x8DA05F219B06B6AF189400CBC33F)).airspeedType = some .tas ∧
      (velocityAirPayload 3 false (VelocityAir.ofFrame 0x8DA05F219B06B6AF189400CBC33F)).vertRateFpm = some (-2304) := by
  decide +kernel

/-- 45_cpr section 7: LOCAL about (52, 0) for both parities, the alias about (55.1, 0), BADLAT about (89, 0), and the
surface about (52.2, 0.2). -/
theorem test_local_decode :
    localDecode ⟨0x404A000000000000, 0⟩ 80536 9432 false false = .ok ⟨0x4049D7E400000000, 0x3FE667ACF914C1BB⟩ ∧
      localDecode ⟨0x404A000000000000, 0⟩ 61720 9192 true false = .ok ⟨0x4049D7E7DD49C341, 0x3FE6710000000000⟩ ∧
      localDecode ⟨0x404B8CCCCCCCCCCD, 0⟩ 80536 9432 false false = .ok ⟨0x404CD7E400000000, 0x3FE9E7E000000000⟩ ∧
      localDecode ⟨0x4056400000000000, 0⟩ 26214 0 false false = .badLat ∧
      localDecode ⟨0x404A19999999999A, 0x3FC999999999999A⟩ 105644 9280 false true = .ok ⟨0x404A1AC080000000, 0x3FC6A80000000000⟩ := by
  decide +kernel

/-- Section 3.9: CM2 to CM5, CM14 to CM16, CM19, CM22 and CM24, by their words. -/
theorem test_command_errors :
    nextOf (exec (decodeCommand 0x0000000E 0 0) State.reset) = some (failed State.reset .errIllegalCmd 0x10) ∧
      nextOf (exec (decodeCommand 0x00010000 0 0) State.reset) = some (failed State.reset .errIllegalCmd 0x10) ∧
      nextOf (exec (decodeCommand 0x00000006 262625 0) State.reset) = some (failed State.reset .errOddLength 0x15) ∧
      nextOf (exec (decodeCommand 0x00000006 262624 0) State.reset) = some (failed State.reset .errAddr 0x14) ∧
      nextOf (exec (decodeCommand 0x00000004 262622 0x100) State.reset) = some (failed State.reset .errAddr 0x14) ∧
      nextOf (exec (decodeCommand 0x00000202 0x7FF8000000000000 0) State.reset) = some (failed State.reset .errBadValue 0x13) ∧
      nextOf (exec (decodeCommand 0x00000009 0 0) State.reset) = some (answered State.reset .none 0 none) ∧
      nextOf (exec (decodeCommand 0x0000000B 5 0) State.reset) = some (answered State.reset .none 0 none) := by
  decide +kernel

/-- The turn a line assembles to, with nothing known of CTRL but its reset value. -/
def turnsOfLine (l : String) : Option (List Turn) :=
  match assemble [l.toList] with
  | .ok is => straightTurns is
  | .error _ => none

/-- 30_encoding R114: its examples. -/
theorem test_assembler :
    turnsOfLine "NOP" = some [.command 0x00000000 0 0] ∧
      turnsOfLine "REG_WRITE CTRL, 3" = some [.command 0x00000102 3 0] ∧
      turnsOfLine "REG_READ STATUS ; poll" = some [.command 0x00000603 0 0] ∧
      turnsOfLine "SAMPLE_WRITE 10, 0xFF" = some [.command 0x00000004 10 0xFF] ∧
      turnsOfLine "PROCESS 2180, t=1000" = some [.command 0x00000006 2180 1000] ∧
      turnsOfLine "SWEEP t=70000" = some [.command 0x00000008 0 70000] ∧
      turnsOfLine "TRACK_READ 0x4840D6" = some [.command 0x0000000A 0x4840D6 0] ∧
      turnsOfLine "CACHE_QUERY 0x4840D6, t=60999" = some [.command 0x0000000D 0x4840D6 60999] := by decide +kernel

/-- 30_encoding R115 and 95_test_vectors P4 and P5: SAMPLES, HOME (after a CTRL the assembler wrote), the loops, and a
selector given by its number. -/
theorem test_pseudo_instructions :
    turnsOfLine "SAMPLES 8, 01 FF" = some [.command 4 8 1, .command 4 9 0xFF] ∧
      turnsOfLine "HOME 52.0, -0.5" =
        some [.command 0x202 0x404A000000000000 0, .command 0x302 0xBFE0000000000000 0, .command 0x102 6 0] ∧
      assemble ["REG_WRITE CTRL, 3".toList, "HOME 0.1, 0".toList, "WAIT".toList, "DRAIN".toList] =
        .ok [.turns [.command 0x102 3 0],
          .turns [.command 0x202 0x3FB999999999999A 0, .command 0x302 0 0, .command 0x102 7 0], .wait, .drain] ∧
      turnsOfLine "REG_READ CNT_TRACK_REMOVED" = some [.command 0x3703 0 0] ∧
      turnsOfLine "REG_READ 0x0C" = some [.command 0x0C03 0 0] ∧ turnsOfLine "HALT" = none := by decide +kernel

/-! ### Hypotheses that are met: for every statement that has some, a state and operands that meet them -/

/-- An outcome that holds a next state is one. -/
theorem next_of_isSome {r : Result} (h : (nextOf r).isSome = true) : ∃ t, r = .next t := by
  cases r with
  | next t => exact ⟨t, rfl⟩
  | fault _ => cases h
  | refused _ => cases h

/-- A scan in progress over a buffer of n samples with the magnitudes given, at offset 0. -/
def scanning (mags : List (BitVec 16)) (n : U32) (p : ScanState) : State :=
  { State.reset with
    scan := ⟨0, p, n, 60000, 0⟩, status := ⟨true, false, false, 0⟩, mag := mags
    regs := { Regs.reset with lastTime := 60000 } }

/-- An idle machine at time 60000 whose cache heard 0x4840D6 at 0 and whose table has it in slot 0. -/
def known : State :=
  { State.reset.cacheInsert 0x4840D6 0 with
    regs := { Regs.reset with lastTime := 60000 }
    scan := ⟨0, .scanning, 0, 60000, 0⟩
    tracks := [(0, newTrack 0x4840D6 0)]
    fifo := [State.reset.record 11 5 0x4840D6 .none (.short 0x5D4840D6F8740F) {}] }

/-- A table with n indexes listed, from k on. -/
def filled {α : Type} (f : Nat → α) : Nat → Nat → Sparse α
  | _, 0 => []
  | k, n + 1 => (k, f k) :: filled f (k + 1) n

theorem lookup_filled {α : Type} (f : Nat → α) (n k i : Nat) (hk : k ≤ i) (hi : i < k + n) :
    Sparse.lookup (filled f k n) i = some (f i) := by
  induction n generalizing k with
  | zero => omega
  | succ n ih =>
    by_cases h : k = i
    · subst h; simp [filled, Sparse.lookup]
    · simp [filled, Sparse.lookup, h, ih (k + 1) (by omega) (by omega)]

theorem mem_filled {α : Type} {f : Nat → α} {n k : Nat} {e : Nat × α} (h : e ∈ filled f k n) :
    k ≤ e.1 ∧ e.1 < k + n ∧ e.2 = f e.1 := by
  induction n generalizing k with
  | zero => simp [filled] at h
  | succ n ih =>
    rcases List.mem_cons.mp h with rfl | h
    · exact ⟨le_rfl, by simp, rfl⟩
    · obtain ⟨h1, h2, h3⟩ := ih h
      exact ⟨by omega, by omega, h3⟩

theorem filled_pairwise {α : Type} {f : Nat → α} {R : Nat × α → Nat × α → Prop} {n k : Nat}
    (h : ∀ i j, i < j → j < k + n → R (i, f i) (j, f j)) : (filled f k n).Pairwise R := by
  induction n generalizing k with
  | zero => exact .nil
  | succ n ih =>
    refine .cons (fun e he => ?_) (ih fun i j hij hj => h i j hij (by omega))
    obtain ⟨h1, h2, h3⟩ := mem_filled he
    have := h k e.1 (by omega) (by omega)
    rwa [← h3] at this

/-- An idle machine with 480 bytes of sample RAM written. -/
def loaded : State := { State.reset with ram := filled (fun _ => 127#8) 0 480 }

/-- The track of slot i in a full table. -/
def fullTrack (i : Nat) : Track := newTrack (BitVec.ofNat 24 (i + 1)) 0

/-- An idle machine whose track table is full. -/
def full : State := { State.reset with tracks := filled fullTrack 0 1024 }

/-- A machine with a command at the head of its schedule. -/
def commanded (w : U32) (a b : U64) : State := { known with schedule := [.command w a b] }

/-- The magnitudes of a window whose bit pairs are all (x, 0). -/
def flatMags (x : BitVec 16) : List (BitVec 16) := preambleMags ++ (List.replicate 112 [x, 0]).flatten

theorem known_tracksOk : TracksOk known where
  order := by decide
  slots := by decide
  unique := by decide
  positions := by simp [known, newTrack]

theorem test_hyps_EncodeThenDecode :
    (Instr.meTc28Other ⟨1, 5, 0x4840D6, 0, .single 0⟩ ⟨1, 0⟩).wf = true ∧
      (Instr.meTc28Other ⟨17, 5, 0x4840D6, 0, .double 110 111⟩ ⟨1, 0⟩).wf = true ∧
      (Instr.reservedCmd 0x0000000E).wf = true := by decide

theorem test_hyps_DecodeThenEncode :
    (0x5D4840D6F8740F : BitVec 56).msb = false ∧ (0x8D4840D6202CC371C32CE0576098 : BitVec 112).msb = true ∧
      decode (.squitter (.single 111) 0x8D4840D6E1000000000000DE52AB) =
        .ok (.meTc28Other ⟨17, 5, 0x4840D6, 0xDE52AB, .single 111⟩ ⟨1, 0⟩) := by decide

/-- Each way to be reserved, and words next to them that are not. -/
theorem test_clauses_ReservedCommandsAreIllegal :
    decodeCommand 0x0000000E 0 0 = .reservedCmd 0x0000000E ∧ decodeCommand 0x00010000 0 0 = .reservedCmd 0x00010000 ∧
      decodeCommand 0x00000100 0 0 = .reservedCmd 0x00000100 ∧ decodeCommand 0x0000000D 0 0 = .cacheQuery 0 0 ∧
      decodeCommand 0x0000FF02 0 0 = .regWrite 255 0 := by decide

theorem test_hyps_StepRunsTheCommand :
    (commanded 0x0603 0 0).schedule = .command 0x0603 0 0 :: [] ∧ decode (.command 0x0603 0 0) = .ok (.regRead 6) := by
  decide

/-- The same state with the pipeline's turn at the head of its schedule, before a CANCEL of the host. -/
def turned (s : State) : State := { s with schedule := [.pipeline, .command 7 0 0] }

theorem turned_turn (s : State) : PipelinesTurn (turned s) := .inr ⟨_, rfl⟩

/-- A window that passes, for both kinds of step. -/
theorem test_hyps_StepRunsTheSlicedFrame :
    (∃ s : State, ScansNext s ∧ s.scan.pst = .scanning ∧ preambleOk 4 s.magBehind = true ∧
      windowPasses (s.regs.ctrl.getLsbD 0) (windowAt s)) ∧
    ∃ s : State, ScansNext s ∧ s.scan.pst = .correcting ∧
      windowPasses (s.regs.ctrl.getLsbD 0) (phaseCorrect .high (windowAt s)) := by
  refine ⟨⟨scanning (signalMags 0x8D4840D6202CC371C32CE0576098) 240 .scanning, ⟨.inl rfl, rfl, rfl⟩, rfl, ?_, ?_⟩,
    turned (scanning (signalMags 0x8D4840D6202CC371C32CE0576098) 240 .correcting), ⟨turned_turn _, rfl, rfl⟩, rfl, ?_⟩
  · decide +kernel
  · unfold windowPasses; decide +kernel
  · unfold windowPasses; decide +kernel

/-- The first pair and the last one of a window, and what is sliced of them: a bit, a copy, a fresh bit. -/
theorem test_clauses_StepRunsTheSlicedFrame :
    ∃ w : List (BitVec 17), w.length = 240 ∧ w[16 + 2 * 0]? = some 300 ∧ w[17 + 2 * 0]? = some 200 ∧
      w[16 + 2 * 111]? = some 0 ∧ w[17 + 2 * 111]? = some 256 ∧ ((sliceWindow w).map Prod.fst)[0]? = some .one ∧
      ((sliceWindow w).map Prod.fst)[110]? = some .one ∧ ((sliceWindow w).map Prod.fst)[111]? = some .zero ∧
      (packBits ((sliceWindow w).map Prod.fst)).getMsbD 110 = true ∧
      (packBits ((sliceWindow w).map Prod.fst)).getMsbD 111 = false :=
  ⟨List.replicate 16 0 ++ (300 :: 200 :: List.replicate 220 0) ++ [0, 256], by decide +kernel⟩

/-- An offset with a window behind the next one, and the last one. -/
theorem test_hyps_IdleAndSkippedOffsets :
    (PipelinesTurn State.reset ∧ State.reset.status.busy = false) ∧
      (PipelinesTurn (turned State.reset) ∧ (turned State.reset).status.busy = false) ∧
      (ScansNext (scanning [] 241 .scanning) ∧ preambleOk 4 (scanning [] 241 .scanning).magBehind = false) ∧
      ScansNext (turned (scanning [] 240 .scanning)) ∧
      preambleOk 4 (turned (scanning [] 240 .scanning)).magBehind = false :=
  ⟨⟨.inl rfl, rfl⟩, ⟨turned_turn _, rfl⟩, ⟨⟨.inl rfl, rfl, rfl⟩, by decide⟩, ⟨turned_turn _, rfl, rfl⟩, by decide⟩

/-- A preamble at the edge of the quiet test: T is 100, a quiet sample of 99 passes and one of 100 does not. -/
theorem test_clauses_IdleAndSkippedOffsets :
    preambleOk 4 (scanning [100, 50, 100, 50, 99, 0, 0, 100, 0, 100] 240 .scanning).magBehind = true ∧
      preambleOk 4 (scanning [101, 50, 100, 50, 100, 0, 0, 100, 0, 100] 240 .scanning).magBehind = false := by
  decide +kernel

theorem test_hyps_CancellationEndsTheRun :
    ∃ s : State, (PipelinesTurn s ∧ PipelinesTurn (turned s)) ∧ s.status.busy = true ∧ s.status.cancelReq = true :=
  ⟨{ scanning [] 240 .correcting with status := ⟨true, true, false, 0⟩ }, ⟨.inl rfl, turned_turn _⟩, rfl, rfl⟩

/-- An error sample at bit 0, and pairs 300 apart, for both kinds of step. -/
theorem test_hyps_NoisyWindowsAreRejected :
    (∀ x p, ScansNext (scanning (flatMags x) 240 p) ∧ ScansNext (turned (scanning (flatMags x) 240 p))) ∧
    (preambleOk 4 (scanning (flatMags 0) 240 .scanning).magBehind = true ∧
      preambleOk 4 (scanning (flatMags 300) 240 .scanning).magBehind = true) ∧
    (0 < errorCount (sliceWindow (windowAt (scanning (flatMags 0) 240 .scanning))) ∧
      0 < errorCount (sliceWindow (phaseCorrect .high (windowAt (scanning (flatMags 0) 240 .correcting))))) ∧
    ∀ p, (errorCount (sliceWindow (windowAt (scanning (flatMags 300) 240 p))) ≤ 0 ∧
        tooWeak 1275 .short (windowAt (scanning (flatMags 300) 240 p)) = true ∧
        tooWeak 1275 .long (windowAt (scanning (flatMags 300) 240 p)) = true) ∧
      errorCount (sliceWindow (phaseCorrect .high (windowAt (scanning (flatMags 300) 240 p)))) ≤ 0 ∧
      tooWeak 1275 .short (phaseCorrect .high (windowAt (scanning (flatMags 300) 240 p))) = true ∧
      tooWeak 1275 .long (phaseCorrect .high (windowAt (scanning (flatMags 300) 240 p))) = true := by
  refine ⟨fun _ _ => ⟨⟨.inl rfl, rfl, rfl⟩, ⟨turned_turn _, rfl, rfl⟩⟩, ⟨?_, ?_⟩, ⟨?_, ?_⟩, fun p => ?_⟩
  · decide +kernel
  · decide +kernel
  · decide +kernel
  · decide +kernel
  · cases p <;> decide +kernel

/-- 42_bitslicer V6 and its neighbour: a mean separation of 1275 is enough and one of 1274 is not. -/
theorem test_clauses_NoisyWindowsAreRejected :
    (windowFrom (flatMags 1275) 240).length = 240 ∧ tooWeak 1275 .long (windowFrom (flatMags 1275) 240) = false ∧
      tooWeak 1275 .long (windowFrom (flatMags 1274) 240) = true ∧
      tooWeak 1275 .short (windowFrom (flatMags 1275) 240) = false ∧
      tooWeak 1275 .short (windowFrom (flatMags 1274) 240) = true ∧
      errorCount (sliceWindow (windowFrom (flatMags 0) 240)) = 1 := by decide +kernel

/-- A clause for each outcome, at the boundaries of the selectors and of the values. -/
theorem test_hyps_RegWriteFollowsItsRule :
    State.reset.status.busy = false ∧ 5 < (6 : BitVec 8).toNat ∧
      (¬LegalRegValue 1 8 ∧ ¬LegalRegValue 2 0x4056800000000001 ∧ ¬LegalRegValue 3 0xC066800000000001 ∧
        ¬LegalRegValue 4 0x100000000 ∧ ¬LegalRegValue 5 0) ∧
      LegalRegValue 1 7 ∧ LegalRegValue 2 0x4056800000000000 ∧ LegalRegValue 3 0xC066800000000000 ∧
      LegalRegValue 4 0xFFFFFFFF ∧ LegalRegValue 5 1 := by
  unfold LegalRegValue
  refine ⟨rfl, by decide, ⟨?_, ?_, ?_, ?_, ?_⟩, ?_, ?_, ?_, ?_, ?_⟩ <;> simp

/-- Every kind of selector: a register, the last counter, an undefined one. -/
theorem test_clauses_RegReadAnswersTheRegister :
    registerAt known 0x07 = some 60000 ∧ registerAt known 0x0B = some 1 ∧ registerAt known 0x37 = some 0 ∧
      registerAt known 0x38 = none ∧ registerAt known 0x0C = none := by decide +kernel

theorem test_hyps_SampleWriteStoresOneByte :
    State.reset.status.busy = false ∧ 262622 ≤ (262622 : U64).toNat ∧ (262621 : U64).toNat < 262622 ∧
      256 ≤ (256 : U64).toNat ∧ (255 : U64).toNat < 256 := by decide

theorem test_hyps_SampleReadAnswersTheByte :
    262622 ≤ (262622 : U64).toNat ∧ (1 : U64).toNat < 262622 ∧ loaded.readSample 1 = some 127 ∧
      known.readSample 262621 = none := by decide

/-- The shortest run and an empty buffer. -/
theorem test_hyps_ProcessStartsARun :
    loaded.status.busy = false ∧ (480 : U64).toNat % 2 = 0 ∧ (480 : U64).toNat ≤ 262622 ∧
      loaded.regs.lastTime.toNat ≤ (0 : U64).toNat ∧ (∀ k, k < (480 : U64).toNat → loaded.readSample k ≠ none) ∧
      ∀ k, k < (0 : U64).toNat → loaded.readSample k ≠ none :=
  ⟨rfl, by decide, by decide, by decide,
    fun k hk => by
      have : Sparse.lookup (filled (fun _ => 127#8) 0 480) k = some 127#8 := lookup_filled _ _ _ _ (by omega) (by simpa using hk)
      simp [State.readSample, loaded, this],
    fun k hk => by simp at hk⟩

theorem test_hyps_ProcessRefusesInOrder :
    known.status.busy = false ∧ (262625 : U64).toNat % 2 = 1 ∧
      ((262624 : U64).toNat % 2 = 0 ∧ 262622 < (262624 : U64).toNat) ∧
      ((262622 : U64).toNat % 2 = 0 ∧ (262622 : U64).toNat ≤ 262622 ∧ (59999 : U64).toNat < known.regs.lastTime.toNat) ∧
      known.regs.lastTime.toNat ≤ (60000 : U64).toNat ∧
      ∃ k, k < (2 : U64).toNat ∧ known.readSample k = none := by
  refine ⟨rfl, by decide, by decide, by decide, by decide, 0, by decide, by decide⟩

theorem test_hyps_CancelRequestsCancellation :
    State.reset.status.busy = false ∧ PipelinesTurn (turned (scanning [] 240 .scanning)) ∧
      (turned (scanning [] 240 .scanning)).status.busy = true ∧
      ∃ t, exec .cancel (turned (scanning [] 240 .scanning)) = .next t :=
  ⟨rfl, turned_turn _, rfl, _, rfl⟩

/-- A track that is stale at 60001 and not at 60000. -/
theorem test_hyps_SweepRemovesStaleTracks :
    known.status.busy = false ∧ (59999 : U64).toNat < known.regs.lastTime.toNat ∧
      known.regs.lastTime.toNat ≤ (60000 : U64).toNat ∧ Sparse.wf known.tracks ∧
      (∀ e ∈ known.tracks, StaleAt known 60001 e.2 ∧ ¬StaleAt known 60000 e.2) := by
  unfold StaleAt; decide +kernel

theorem test_hyps_MsgPopTakesTheOldest :
    State.reset.fifo = [] ∧ ∃ m rest, known.fifo = m :: rest := ⟨rfl, _, _, rfl⟩

theorem test_hyps_TrackReadsAnswerSnapshots :
    TracksOk known ∧ 2 ^ 24 ≤ (0x1000000 : U64).toNat ∧
      ((0, newTrack 0x4840D6 0) ∈ known.tracks ∧ (newTrack 0x4840D6 0).icao.toNat = (0x4840D6 : U64).toNat) ∧
      ((0xFFFFFF : U64).toNat < 2 ^ 24 ∧ ∀ e ∈ known.tracks, e.2.icao.toNat ≠ (0xFFFFFF : U64).toNat) ∧
      1024 ≤ (1024 : U64).toNat ∧ ((0 : U64).toNat, newTrack 0x4840D6 0) ∈ known.tracks ∧
      (1023 : U64).toNat < 1024 ∧ ∀ e ∈ known.tracks, e.1 ≠ (1023 : U64).toNat :=
  ⟨known_tracksOk, by decide, by decide, by decide, by decide, by decide, by decide, by decide⟩

theorem test_hyps_CacheInsertWritesItsSlot :
    State.reset.status.busy = false ∧ 2 ^ 24 ≤ (0x1000000 : U64).toNat ∧ (0xFFFFFF : U64).toNat < 2 ^ 24 := by decide

/-- The rounds of HASH by hand for address 1, whose slot is 935 (43_checksum R231). -/
theorem test_clauses_CacheInsertWritesItsSlot :
    ∃ mix : Nat → Nat, (∀ x, mix x = x / 2 ^ 16 ^^^ x) ∧ mix (1 : U32).toNat * 0x045D9F3B % 2 ^ 32 = 0x045D9F3B ∧
      mix (mix 0x045D9F3B * 0x045D9F3B % 2 ^ 32) % 1024 = 935 :=
  ⟨_, fun _ => rfl, by decide +kernel, by decide +kernel⟩

/-- The address is found at 60000 and not at 60001, so both answers occur. -/
theorem test_hyps_CacheQueryAnswersFound :
    2 ^ 24 ≤ (0x1000000 : U64).toNat ∧ (0x4840D6 : U64).toNat < 2 ^ 24 ∧
      cacheSlot known.cache (cacheHash (BitVec.ofNat 32 (0x4840D6 : U64).toNat)) = ⟨0x4840D6, 0⟩ := by decide +kernel

theorem test_hyps_BusyRule :
    (scanning [] 240 .scanning).status.busy = true ∧ isCommand (.sweep 0) ∧
      ∃ t, exec (.sweep 0) (scanning [] 240 .scanning) = .next t ∧ t.rsp.status = .errBusy :=
  ⟨rfl, ⟨_, _, _, rfl⟩, _, rfl, rfl⟩

/-- A command that fails, one that answers NONE and one that succeeds. -/
theorem test_hyps_FailedCommandsChangeNothingElse :
    (isCommand (.trackSlot 1024) ∧ ∃ t, exec (.trackSlot 1024) known = .next t ∧ t.rsp.status = .errAddr) ∧
      (isCommand (.trackSlot 1023) ∧ ∃ t, exec (.trackSlot 1023) known = .next t ∧ t.rsp.status = .none) ∧
      isCommand .nop ∧ ∃ t, exec .nop known = .next t ∧ t.rsp.status = .ok ∧ Instr.nop ≠ .reset :=
  ⟨⟨⟨_, _, _, rfl⟩, _, rfl, rfl⟩, ⟨⟨_, _, _, rfl⟩, _, rfl, rfl⟩, ⟨_, _, _, rfl⟩, _, rfl, rfl, by decide⟩

/-- Frames KLM, DF11, DF20 and DF5 of 95_test_vectors, taken apart. -/
theorem test_hyps_SealedFramesVerify :
    (0x8D4840D6202CC371C32CE0576098 : BitVec 112) =
        (0x8D4840D6202CC371C32CE0 : BitVec 88) ++ checksum ((0x8D4840D6202CC371C32CE0 : BitVec 88) ++ 0#24 : BitVec 112) ∧
      (0x5D4840D6F8740F : BitVec 56) =
        (0x5D4840D6 : BitVec 32) ++ checksum ((0x5D4840D6 : BitVec 32) ++ 0#24 : BitVec 56) ∧
      (0xA0001838000000000000000B13EA : BitVec 112) = (0xA000183800000000000000 : BitVec 88) ++
        (checksum ((0xA000183800000000000000 : BitVec 88) ++ 0#24 : BitVec 112) ^^^ 0x4840D6#24) ∧
      (0x28000A800349D8 : BitVec 56) =
        (0x28000A80 : BitVec 32) ++ (checksum ((0x28000A80 : BitVec 32) ++ 0#24 : BitVec 56) ^^^ 0x4840D6#24) := by
  decide +kernel

/-- The last field and the last position of a frame; a flip there reaches no other bit. -/
theorem test_clauses_SealedFramesVerify :
    89 + 24 ≤ 112 + 1 ∧ icao (0x8D4840D6202CC371C32CE0576098 : BitVec 112) 89 24 = 0x576098 ∧
      flipBit (0 : BitVec 56) 55 = 1 ∧ flipBit (0 : BitVec 56) 0 = 0x80000000000000 := by decide +kernel

/-- The address-parity frames of 95_test_vectors section 1, taken apart, with the address last heard 60000 ms ago. -/
theorem test_hyps_ApRepliesAreAccepted :
    ((0x00001838D9A5D2 : BitVec 56) = shortFrame 0 (AirAirShort.ofFrame 0x00001838D9A5D2).bits ∧
      (0x2000021CD4950B : BitVec 56) = shortFrame 4 (SurvAlt.ofFrame 0x2000021CD4950B).bits ∧
      (0x28000A800349D8 : BitVec 56) = shortFrame 5 (SurvId.ofFrame 0x28000A800349D8).bits ∧
      (0x8000183800000000000000FAA494 : BitVec 112) =
        longFrame 16 (AirAirLong.ofFrame 0x8000183800000000000000FAA494).bits ∧
      (0xA0001838000000000000000B13EA : BitVec 112) =
        longFrame 20 (CommBAlt.ofFrame 0xA0001838000000000000000B13EA).bits ∧
      (0xA8000808000000000000008CEAFE : BitVec 112) =
        longFrame 21 (CommBId.ofFrame 0xA8000808000000000000008CEAFE).bits ∧
      (0xD800000000000000000000D6A3AD : BitVec 112) = (CommD.ofFrame 0xD800000000000000000000D6A3AD).frame) ∧
    (syndrome (0x00001838D9A5D2 : BitVec 56) = 0x4840D6 ∧ syndrome (0x2000021CD4950B : BitVec 56) = 0x4840D6 ∧
      syndrome (0x28000A800349D8 : BitVec 56) = 0x4840D6 ∧
      syndrome (0x8000183800000000000000FAA494 : BitVec 112) = 0x4840D6 ∧
      syndrome (0xA0001838000000000000000B13EA : BitVec 112) = 0x4840D6 ∧
      syndrome (0xA8000808000000000000008CEAFE : BitVec 112) = 0x4840D6 ∧
      syndrome (0xD800000000000000000000D6A3AD : BitVec 112) = 0x4840D6) ∧
    known.cacheFound ((0x4840D6 : U24).setWidth 32) known.scan.now = true := by decide +kernel

/-- The same frames, the address never heard. -/
theorem test_hyps_UnknownAddressesAreRejected :
    State.reset.cacheFound ((syndrome (shortFrame 0 (AirAirShort.ofFrame 0x00001838D9A5D2).bits)).setWidth 32) 0 = false ∧
      State.reset.cacheFound ((syndrome (shortFrame 4 (SurvAlt.ofFrame 0x2000021CD4950B).bits)).setWidth 32) 0 = false ∧
      State.reset.cacheFound ((syndrome (shortFrame 5 (SurvId.ofFrame 0x28000A800349D8).bits)).setWidth 32) 0 = false ∧
      State.reset.cacheFound
        ((syndrome (longFrame 16 (AirAirLong.ofFrame 0x8000183800000000000000FAA494).bits)).setWidth 32) 0 = false ∧
      State.reset.cacheFound
        ((syndrome (longFrame 20 (CommBAlt.ofFrame 0xA0001838000000000000000B13EA).bits)).setWidth 32) 0 = false ∧
      State.reset.cacheFound
        ((syndrome (longFrame 21 (CommBId.ofFrame 0xA8000808000000000000008CEAFE).bits)).setWidth 32) 0 = false ∧
      State.reset.cacheFound ((syndrome (CommD.ofFrame 0xD800000000000000000000D6A3AD).frame).setWidth 32) 0 = false := by
  decide +kernel

/-- DF11 intact, with the last bit flipped, with a bit of its received DF flipped, and with two bits flipped. -/
theorem test_hyps_AllCallVerification :
    ((0x5D4840D6F8740F : BitVec 56) = shortFrame 11 (AllCall.ofFrame 0x5D4840D6F8740F).bits ∧
      (0x5D4840D6F8740E : BitVec 56) = shortFrame 11 (AllCall.ofFrame 0x5D4840D6F8740E).bits ∧
      (0x5D4840D6586A9E : BitVec 56) = shortFrame 11 (AllCall.ofFrame 0x5D4840D6586A9E).bits ∧
      (0x5D6840D6F8F40F : BitVec 56) = shortFrame 11 (AllCall.ofFrame 0x5D6840D6F8F40F).bits) ∧
    checksum (0x5D4840D6F8740F : BitVec 56) = txField (0x5D4840D6F8740F : BitVec 56) ∧
    (checksum (0x5D4840D6F8740E : BitVec 56) ≠ txField (0x5D4840D6F8740E : BitVec 56) ∧
      fix1Search (0x5D4840D6F8740E : BitVec 56) 56 0 = some 55) ∧
    (checksum (0x5D4840D6586A9E : BitVec 56) ≠ txField (0x5D4840D6586A9E : BitVec 56) ∧
      fix1Search (0x5D4840D6586A9E : BitVec 56) 56 0 = some 4) ∧
    checksum (0x5D6840D6F8F40F : BitVec 56) ≠ txField (0x5D6840D6F8F40F : BitVec 56) ∧
    fix1Search (0x5D6840D6F8F40F : BitVec 56) 56 0 = none := by decide +kernel

/-- KLM intact, one flip in a checksum bit or in the DF field, two flips in the DF field in aggressive mode, and two flips
without it. -/
theorem test_hyps_SquitterDispatch :
    ((0x8D4840D6202CC371C32CE0576098 : BitVec 112) = longFrame 17 (ExtSquitter.ofFrame 0x8D4840D6202CC371C32CE0576098).bits ∧
      (0x8D4840D6202CC371C32CE0576099 : BitVec 112) = longFrame 17 (ExtSquitter.ofFrame 0x8D4840D6202CC371C32CE0576099).bits ∧
      (0x8D4840D6E1000000000000E76741 : BitVec 112) = longFrame 17 (ExtSquitter.ofFrame 0x8D4840D6E1000000000000E76741).bits ∧
      (0x8D4840D6E1000000000000FBFDB4 : BitVec 112) = longFrame 17 (ExtSquitter.ofFrame 0x8D4840D6E1000000000000FBFDB4).bits ∧
      (0x8D4848D6202CC371C12CE0576098 : BitVec 112) = longFrame 17 (ExtSquitter.ofFrame 0x8D4848D6202CC371C12CE0576098).bits) ∧
    checksum (0x8D4840D6202CC371C32CE0576098 : BitVec 112) = txField (0x8D4840D6202CC371C32CE0576098 : BitVec 112) ∧
    (checksum (0x8D4840D6202CC371C32CE0576099 : BitVec 112) ≠ txField (0x8D4840D6202CC371C32CE0576099 : BitVec 112) ∧
      fix1Search (0x8D4840D6202CC371C32CE0576099 : BitVec 112) 112 0 = some 111) ∧
    (checksum (0x8D4840D6E1000000000000E76741 : BitVec 112) ≠ txField (0x8D4840D6E1000000000000E76741 : BitVec 112) ∧
      fix1Search (0x8D4840D6E1000000000000E76741 : BitVec 112) 112 0 = some 0) ∧
    (checksum (0x8D4840D6E1000000000000FBFDB4 : BitVec 112) ≠ txField (0x8D4840D6E1000000000000FBFDB4 : BitVec 112) ∧
      fix1Search (0x8D4840D6E1000000000000FBFDB4 : BitVec 112) 112 0 = none ∧
      fix2Search (0x8D4840D6E1000000000000FBFDB4 : BitVec 112) 112 0 = some (0, 1) ∧ (3 : U64).getLsbD 0 = true) ∧
    checksum (0x8D4848D6202CC371C12CE0576098 : BitVec 112) ≠ txField (0x8D4848D6202CC371C12CE0576098 : BitVec 112) ∧
    fix1Search (0x8D4848D6202CC371C12CE0576098 : BitVec 112) 112 0 = none ∧ State.reset.regs.ctrl.getLsbD 0 = false := by decide +kernel

theorem test_hyps_VerifiedSquittersAreAccepted :
    (0x8D4840D6E1000000000000DE52AB : BitVec 112) =
        longFrame 17 (ExtSquitter.ofFrame 0x8D4840D6E1000000000000DE52AB).bits ∧
      checksum (0x8D4840D6E1000000000000DE52AB : BitVec 112) = txField (0x8D4840D6E1000000000000DE52AB : BitVec 112) := by
  decide +kernel

/-- Codes 0, 32 and 63 of CHARSET, the first and the last character. -/
theorem test_clauses_IdentificationsAreAccepted :
    flightOf 0x000000000000 = List.replicate 8 '?' ∧ (flightOf 0x800000000000)[0]? = some ' ' ∧
      (flightOf 0x00000000003F)[7]? = some '?' ∧ (flightOf 0x000000000039)[7]? = some '9' := by decide +kernel

/-- The payload of KLM (95_test_vectors section 1). -/
theorem test_hyps_IdentificationsAreAccepted :
    ∃ (m : Identification) (p : BitVec 5 → Payload), m = Identification.ofFrame 0x8D4840D6202CC371C32CE0576098 ∧
      (∀ tc, p tc =
      { meType := some tc, meSubtype := some m.category, category := some m.category,
        flight := some (flightOf m.chars) }) :=
  ⟨_, _, rfl, fun _ => rfl⟩

/-- The payload of SURF. -/
theorem test_hyps_SurfacePositionsAreAccepted :
    ∃ (m : SurfacePosition) (p : BitVec 5 → Payload), m = SurfacePosition.ofFrame 0x8D4CA7E53B9C0339582440E9211C ∧
      (∀ tc, p tc =
      { meType := some tc, meSubtype := some (m.movement.extractLsb' 4 3), surface := some true,
        gsKt := movementOf m.movement,
        trackDeg :=
          if m.trackStatus = 1 then
            some (F64.div (F64.mul (F64.ofNat m.track.toNat) (F64.ofNat 360)) (F64.ofNat 128))
          else none,
        cprUtc := some m.t, cprFormat := some m.f, cprLat := some m.cprLat, cprLon := some m.cprLon }) :=
  ⟨_, _, rfl, fun _ => rfl⟩

/-- The payload of E. -/
theorem test_hyps_BaroPositionsAreAccepted :
    ∃ (m : AirbornePosition) (p : BitVec 5 → Payload), m = AirbornePosition.ofFrame 0x8D4CA7E558C382753024D84A1C6E ∧
      (∀ tc, p tc =
      { meType := some tc, meSubtype := some (m.survStatus ++ m.singleAntenna), surface := some false,
        altitudeFt := ac12 m.alt, cprUtc := some m.t, cprFormat := some m.f, cprLat := some m.cprLat,
        cprLon := some m.cprLon }) :=
  ⟨_, _, rfl, fun _ => rfl⟩

/-- The payload of the position of E with GNSS height. -/
theorem test_hyps_GnssPositionsAreAccepted :
    ∃ (m : AirbornePosition) (p : BitVec 5 → Payload), m = AirbornePosition.ofFrame 0x8D4CA7E558C382753024D84A1C6E ∧
      (∀ tc, p tc =
      { meType := some tc, meSubtype := some (m.survStatus ++ m.singleAntenna), surface := some false,
        cprUtc := some m.t, cprFormat := some m.f, cprLat := some m.cprLat, cprLon := some m.cprLon }) :=
  ⟨_, _, rfl, fun _ => rfl⟩

/-- The payload of VEL1. -/
theorem test_hyps_GroundVelocitiesAreAccepted :
    ∃ (m : VelocityGround) (p : BitVec 3 → Int → Payload) (vx vy : Int → Int) (angle : Int → F64), m = VelocityGround.ofFrame 0x8D485020994409940838175B284F ∧
      (∀ k, vx k = (if m.dew = 1 then -1 else 1) * (((m.vew.toNat : Int) - 1) * k)) ∧
      (∀ k, vy k = (if m.dns = 1 then -1 else 1) * (((m.vns.toNat : Int) - 1) * k)) ∧
      (∀ k, angle k =
        F64.div (F64.mul (Config.ATAN2 (F64.ofInt (vx k)) (F64.ofInt (vy k))) (F64.ofNat 180)) 0x400921FB54442D18) ∧
      (∀ st k, p st k =
      let vertical : Payload :=
        { meType := some 19, meSubtype := some st,
          vertRateFpm :=
            if m.vr = 0 then none else some ((if m.svr = 1 then -1 else 1) * (((m.vr.toNat : Int) - 1) * 64)) }
      if m.vew ≠ 0 ∧ m.vns ≠ 0 then
        { vertical with
          velEwKt := some (vx k), velNsKt := some (vy k),
          gsKt := some (F64.sqrt (F64.add (F64.mul (F64.ofInt (vx k)) (F64.ofInt (vx k)))
            (F64.mul (F64.ofInt (vy k)) (F64.ofInt (vy k))))),
          trackDeg := some (if F64.lt (angle k) 0 = true then F64.add (angle k) (F64.ofNat 360) else angle k) }
      else vertical) :=
  ⟨_, _, _, _, _, rfl, fun _ => rfl, fun _ => rfl, fun _ => rfl, fun _ _ => rfl⟩

/-- The payload of VEL3. -/
theorem test_hyps_AirspeedsAreAccepted :
    ∃ (m : VelocityAir) (p : BitVec 3 → Nat → Payload), m = VelocityAir.ofFrame 0x8DA05F219B06B6AF189400CBC33F ∧
      (∀ st k, p st k =
      { meType := some 19, meSubtype := some st,
        headingDeg :=
          if m.headingStatus = 1 then
            some (F64.div (F64.mul (F64.ofNat m.heading.toNat) (F64.ofNat 360)) (F64.ofNat 1024))
          else none,
        airspeedKt := if m.airspeed = 0 then none else some ((m.airspeed.toNat - 1) * k),
        airspeedType := if m.airspeed = 0 then none else some (if m.airspeedType = 1 then .tas else .ias),
        vertRateFpm :=
          if m.vr = 0 then none else some ((if m.svr = 1 then -1 else 1) * (((m.vr.toNat : Int) - 1) * 64)) }) :=
  ⟨_, _, rfl, fun _ _ => rfl⟩

theorem test_hyps_OtherMessagesAreAccepted : ∃ p : BitVec 5 → BitVec 3 → Payload, ∀ tc st, p tc st =
    { meType := some tc, meSubtype := some st } :=
  ⟨fun tc st => { meType := some tc, meSubtype := some st }, fun _ _ => rfl⟩

/-- The squawk 1200 as its thirteen bits. -/
theorem test_hyps_AltitudeAndIdentityCodes :
    (0x0808 : BitVec 13) = 0#1 ++ (1#1 ++ (0#1 ++ (0#1 ++ (0#1 ++ (0#1 ++ (0#1 ++ (0#1 ++ (0#1 ++ (1#1 ++
      (0#1 ++ (0#1 ++ 0#1))))))))))) := by decide

theorem full_tracksOk : TracksOk full where
  order := filled_pairwise fun _ _ h _ => h
  slots := fun _ he => by have := mem_filled he; omega
  unique := filled_pairwise fun i j hij hj h => by
    have := congrArg BitVec.toNat h
    simp only [fullTrack, newTrack, BitVec.toNat_ofNat] at this
    omega
  positions := fun e he p hp => by
    obtain ⟨-, -, h⟩ := mem_filled he
    rw [h] at hp
    cases hp

/-- A message for an address of the table, one for a new address, and one for a new address and a full table. -/
theorem test_hyps_TrackUpdateWithoutPosition :
    (∃ m : Message, m.payload.cprLat = none ∧ m.icao = 0x4840D6 ∧ TracksOk known ∧
      (0, newTrack 0x4840D6 0) ∈ known.tracks ∧ (newTrack 0x4840D6 0).icao = m.icao) ∧
    ∃ m : Message, m.payload.cprLat = none ∧ m.icao = 0xFFFFFF ∧
      ((∀ e ∈ known.tracks, e.2.icao ≠ m.icao) ∧ Sparse.lookup known.tracks 1 = none ∧
        ∀ k, k < 1 → Sparse.lookup known.tracks k ≠ none) ∧
      TracksOk full ∧ (∀ e ∈ full.tracks, e.2.icao ≠ m.icao) ∧ ∀ i, i < 1024 → Sparse.lookup full.tracks i ≠ none := by
  refine ⟨⟨State.reset.record 11 5 0x4840D6 .none (.short 0) {}, rfl, rfl, known_tracksOk, by decide, rfl⟩,
    State.reset.record 11 5 0xFFFFFF .none (.short 0) {}, rfl, rfl, ⟨by decide, by decide, by decide⟩, full_tracksOk,
    fun e he h => ?_, fun i hi => ?_⟩
  · obtain ⟨-, h2, h3⟩ := mem_filled he
    have := congrArg BitVec.toNat (h3 ▸ h : (fullTrack e.1).icao = 0xFFFFFF#24)
    simp only [fullTrack, newTrack, BitVec.toNat_ofNat] at this
    omega
  · have : Sparse.lookup (filled fullTrack 0 1024) i = some (fullTrack i) :=
      lookup_filled _ _ _ _ (by omega) (by omega)
    simp [full, this]

/-- The second sample of a pair decodes globally; a first one stores and waits; one in another zone is counted. -/
theorem test_hyps_PositionUpdates :
    (cprUpdate ⟨false, ⟨0, 0⟩, 0, 0⟩ { newTrack 1 0 with cprEven := some ⟨80536, 9432, 0, false⟩ } 61720 9192 true
      false).2 = [.cprGlobal] ∧
    (cprUpdate ⟨false, ⟨0, 0⟩, 0, 0⟩ (newTrack 1 0) 61720 9192 true false).2 = [] ∧
    (cprUpdate ⟨false, ⟨0, 0⟩, 0, 0⟩ { newTrack 1 0 with cprEven := some ⟨85197, 13107, 0, false⟩ } 65871 13107 true
      false).2 = [.cprZone] := by decide +kernel

theorem shiftLeft_le {a b n m : Nat} (h : a ≤ 2 * b) (hn : n + 1 ≤ m) : a <<< n ≤ b <<< m := by
  rw [Nat.shiftLeft_eq, Nat.shiftLeft_eq]
  calc a * 2 ^ n ≤ 2 * b * 2 ^ n := Nat.mul_le_mul_right _ h
    _ = b * 2 ^ (n + 1) := by rw [Nat.pow_succ, Nat.mul_comm 2 b, Nat.mul_assoc, Nat.mul_comm 2]
    _ ≤ b * 2 ^ m := Nat.mul_le_mul_left _ (Nat.pow_le_pow_right (by decide) hn)

/-- A positive infinity. -/
def infinite : F64 := 0x7FF0000000000000

/-- Every number is at most an infinity. -/
theorem units_le_infinite (x : F64) (hx : F64.isNaN x = false) : F64.units x ≤ F64.units infinite := by
  have hi : F64.expField infinite = 2047 := by decide
  have h1 : F64.expField x < 2048 := (x.extractLsb' 52 11).isLt
  have h2 : F64.frac x < 2 ^ 52 := (x.extractLsb' 0 52).isLt
  unfold F64.units
  rw [hi, if_neg (by decide : ¬(2047 : Nat) = 0)]
  by_cases he : F64.expField x = 2047
  · have hf : F64.frac x = 0 := by
      rw [F64.isNaN, he] at hx
      simpa using hx
    rw [he, hf, if_neg (by decide : ¬(2047 : Nat) = 0)]
    exact Nat.le_refl _
  · split
    · have h3 : F64.frac x <<< 0 ≤ (2 ^ 52 + F64.frac infinite) <<< (2047 - 1) :=
        shiftLeft_le (by omega) (by decide)
      rwa [Nat.shiftLeft_zero] at h3
    · exact shiftLeft_le (by omega) (by omega)

/-- Nothing is farther than an infinite allowance. -/
theorem not_inf_lt (x : F64) : F64.lt infinite x = false := by
  unfold F64.lt
  cases hx : F64.isNaN x with
  | true => rw [Bool.not_true, Bool.and_false, Bool.false_and]
  | false =>
    have h := units_le_infinite x hx
    have h3 : F64.signedUnits x ≤ ((F64.units x : Nat) : Int) := by
      unfold F64.signedUnits
      generalize F64.units x = u
      split <;> omega
    have h4 : F64.signedUnits infinite = ((F64.units infinite : Nat) : Int) := by
      rw [F64.signedUnits, if_neg (by decide)]
    rw [h4]
    generalize F64.units infinite = v at h ⊢
    generalize F64.signedUnits x = sx at h3 ⊢
    rw [decide_eq_false (by omega), Bool.and_false]

/-- A track whose own fix is as old as a local reference may be; its speed is infinite, so that every distance is allowed,
whatever the free trigonometric functions are. -/
def fixed : Track :=
  { newTrack 1 0 with pos := some ⟨0x404A000000000000, 0⟩, gsKt := some infinite }

/-- A resolver without a home at time 600000, and one at time 10000. -/
def env600 : CprEnv := ⟨false, ⟨0, 0⟩, 0, 600000⟩
def env10 : CprEnv := ⟨false, ⟨0, 0⟩, 0, 10000⟩

/-- The first clause: a local decode about the track's own fix. -/
theorem test_clauses_PositionUpdates_local :
    LocalReference env600 fixed false ⟨0x404A000000000000, 0⟩ .localFix ∧
      localAsWritten ⟨0x404A000000000000, 0⟩ 80536 9432 false false =
        .ok ⟨0x4049D7E400000000, 0x3FE667ACF914C1BB⟩ ∧
      Plausible env600 fixed ⟨0x4049D7E400000000, 0x3FE667ACF914C1BB⟩ false := by
  refine ⟨.inl ⟨⟨rfl, by decide⟩, rfl⟩, by decide +kernel, fun h => Bool.noConfusion h.1, fun ⟨old, _, h⟩ => ?_⟩
  have ha : allowedTravel env600 fixed false = infinite := by decide +kernel
  rw [ha, not_inf_lt] at h
  exact Bool.noConfusion h

/-- A resolver at home, (52, 0), with the farthest limit that lets home be a reference in the air. -/
def envHome : CprEnv := ⟨true, ⟨0x404A000000000000, 0⟩, 333360, 600000⟩

/-- The position about (52, 0) of the first local vector. -/
def nearHome : Position := ⟨0x4049D7E400000000, 0x3FE667ACF914C1BB⟩

/-- A distance depends on the free functions of R302 through asin alone: where asin always gives y, it is 2 · 6371000 · y. -/
theorem metresBetween_of_asin {y : F64} (h : ∀ x, Config.ASIN x = y) (p q : Position) :
    metresBetween p q = F64.mul (F64.mul (F64.ofNat 2) (F64.ofNat 6371000)) y := by
  simp only [metresBetween, h]

/-- The first clause with home as the reference, source RELATIVE, and the refusals of R304 and R305. The distances are free
(log 8): an asin that is always 0 lets the range check pass, and one that is always 1 makes it refuse, and the speed check
of a track whose speed is not known refuse as well. -/
theorem test_clauses_PositionUpdates_relative :
    LocalReference envHome (newTrack 1 0) false envHome.home .relative ∧
      localAsWritten envHome.home 80536 9432 false false = .ok nearHome ∧
      ((∀ x, Config.ASIN x = 0) → Plausible envHome (newTrack 1 0) nearHome false) ∧
      ((∀ x, Config.ASIN x = 0x3FF0000000000000) →
        Refused envHome (newTrack 1 0) false (.ok nearHome) .cprRejRange ∧
          Refused env600 { fixed with gsKt := none } false (.ok nearHome) .cprRejSpeed) := by
  refine ⟨.inr ⟨fun p h => ?_, rfl, by decide, by decide, rfl, rfl⟩, by decide +kernel, fun h => ⟨fun r => ?_, fun r => ?_⟩,
    fun h => ⟨.inl ⟨⟨rfl, by decide, ?_⟩, rfl⟩, .inr ⟨fun r => Bool.noConfusion r.1, ⟨_, rfl, ?_⟩, rfl⟩⟩⟩
  · obtain ⟨h, -⟩ := h
    cases h
  · obtain ⟨-, -, r⟩ := r
    rw [metresBetween_of_asin h] at r
    exact absurd r (by decide +kernel)
  · obtain ⟨_, r, -⟩ := r
    cases r
  · rw [metresBetween_of_asin h]
    decide +kernel
  · rw [metresBetween_of_asin h]
    decide +kernel

/-- The other clauses: no local reference, or a local decode outside the latitudes; then no sample of the other parity, a
pair one millisecond too old, and a pair that is just young enough and decodes, or lies across a zone boundary. -/
theorem test_clauses_PositionUpdates_global :
    (LocalFails env10 (newTrack 1 0) 61720 9192 true false [] ∧
      ∀ q, ¬Paired env10 (newTrack 1 0) true false q) ∧
    LocalFails env600 { fixed with pos := some ⟨0x4056400000000000, 0⟩ } 26214 0 false false [.cprBadLat] ∧
    (∀ ref, ¬GlobalReference env10 (newTrack 1 0) true ref) ∧
    (Paired env10 { newTrack 1 0 with cprEven := some ⟨80536, 9432, 0, false⟩ } true false ⟨80536, 9432, 0, false⟩ ∧
      ¬Paired { env10 with now := 10001 } { newTrack 1 0 with cprEven := some ⟨80536, 9432, 0, false⟩ } true false
        ⟨80536, 9432, 0, false⟩ ∧
      GlobalReference env10 (newTrack 1 0) false ⟨0, 0⟩ ∧
      pairAsWritten 61720 9192 ⟨80536, 9432, 0, false⟩ true false ⟨0, 0⟩ =
        .ok ⟨0x4049D7E7DD49C341, 0x3FE6710000000000⟩ ∧
      Plausible env10 (newTrack 1 0) ⟨0x4049D7E7DD49C341, 0x3FE6710000000000⟩ false) ∧
    Refused env10 (newTrack 1 0) false (pairAsWritten 65871 13107 ⟨85197, 13107, 0, false⟩ true false ⟨0, 0⟩)
      .cprZone := by
  have none10 : ∀ surface ref src, ¬LocalReference env10 (newTrack 1 0) surface ref src := fun _ _ _ h => by
    rcases h with ⟨⟨h, _⟩, _⟩ | ⟨_, h, _⟩ <;> cases h
  refine ⟨⟨.inl ⟨rfl, none10 _⟩, fun q h => ?_⟩, .inr ⟨_, .localFix, _, rfl, .inl ⟨⟨rfl, by decide⟩, rfl⟩, ?_⟩,
    fun ref h => ?_, ⟨⟨rfl, rfl, by decide⟩, fun h => absurd h.2.2 (by decide), .inl rfl, ?_,
      fun h => Bool.noConfusion h.1, fun ⟨_, h, _⟩ => (by cases h)⟩, ?_⟩
  · obtain ⟨h, -, -⟩ := h
    cases h
  · have : localAsWritten ⟨0x4056400000000000, 0⟩ 26214 0 false false = .badLat := by decide +kernel
    rw [this]
    rfl
  · rcases h with h | h | ⟨_, h, _⟩ <;> cases h
  · rw [pairAsWritten, if_pos rfl, ← globalDecode_asWritten]
    decide +kernel
  · have : pairAsWritten 65871 13107 ⟨85197, 13107, 0, false⟩ true false ⟨0, 0⟩ = .zone := by
      rw [pairAsWritten, if_pos rfl, ← globalDecode_asWritten]
      decide +kernel
    rw [this]
    rfl

/-- A position message for an address of the table, one for a new address, and one for a new address and a full table. -/
theorem test_clauses_PositionUpdates_track :
    (∃ m : Message, m.payload.cprLat = some 80536 ∧ TracksOk known ∧
      (0, newTrack 0x4840D6 0) ∈ known.tracks ∧ (newTrack 0x4840D6 0).icao = m.icao) ∧
    ∃ m : Message, m.payload.cprLat = some 80536 ∧ m.icao = 0xFFFFFF ∧
      ((∀ e ∈ known.tracks, e.2.icao ≠ m.icao) ∧ Sparse.lookup known.tracks 1 = none ∧
        ∀ k, k < 1 → Sparse.lookup known.tracks k ≠ none) ∧
      TracksOk full ∧ (∀ e ∈ full.tracks, e.2.icao ≠ m.icao) ∧ ∀ i, i < 1024 → Sparse.lookup full.tracks i ≠ none := by
  obtain ⟨-, m, _, h1, h2, h3, h4, h5⟩ := test_hyps_TrackUpdateWithoutPosition
  exact ⟨⟨State.reset.record 17 5 0x4840D6 .none (.long 0) { cprLat := some 80536 }, rfl, known_tracksOk, by decide, rfl⟩,
    { m with payload := { cprLat := some 80536 } }, rfl, h1, h2, h3, h4, h5⟩

/-- The last threshold, 87.0: NL is 1 there and 2 just below it, and the largest pattern that is a number is an infinity. -/
theorem test_clauses_GlobalDecodeVectors :
    (0xC055C00000000000 : F64).toNat % 2 ^ 63 = 0x4055C00000000000 ∧ nl 0xC055C00000000000 = 1 ∧
      nl 0x4055BFFFFFFFFFFF = 2 ∧ (0x7FF0000000000000 : F64).toNat % 2 ^ 63 ≤ 0x7FF0000000000000 ∧
      nl 0x7FF0000000000000 = 1 := by decide +kernel

/-- The address of SAMPLES counts on modulo 2^64 (log 20). -/
theorem test_samples_wrap :
    samplesTurns 0xFFFFFFFFFFFFFFFF [1, 2] = [.command 4 0xFFFFFFFFFFFFFFFF 1, .command 4 0 2] := by decide

theorem test_hyps_MagnitudesAreRounded :
    (16384 : Int) = (((255 : Byte).toNat : Int) - 127) ^ 2 + (((127 : Byte).toNat : Int) - 127) ^ 2 ∧
      (46080 : Int) = ((magOf 255 127).toNat : Int) := by decide +kernel

/-- The largest window, at the first and at the last pair corrected. -/
theorem test_hyps_PhaseCorrectionScalesTheNextPair :
    (List.replicate 240 65167#17).length = 240 ∧ (∀ x ∈ List.replicate 240 65167#17, x.toNat ≤ 65167) ∧
      (phaseCorrect .high (List.replicate 240 65167#17))[16]? = some 65167 ∧
      (phaseCorrect .high (List.replicate 240 65167#17))[17]? = some 65167 ∧
      (List.replicate 240 65167#17)[18]? = some 65167#17 ∧ (List.replicate 240 65167#17)[19]? = some 65167#17 ∧
      (phaseCorrect .high (List.replicate 240 65167#17))[236]? = some 65167 ∧
      (phaseCorrect .high (List.replicate 240 65167#17))[237]? = some 81458 ∧
      (List.replicate 240 65167#17)[238]? = some 65167#17 ∧ (List.replicate 240 65167#17)[239]? = some 65167#17 := by
  refine ⟨by decide +kernel, fun x hx => ?_, by decide +kernel⟩
  rw [List.eq_of_mem_replicate hx]
  decide

/-- Both outcomes of a step occur. -/
theorem test_clauses_OnlySampleReadsFault :
    step State.reset = .next State.reset ∧ step (commanded 5 3 0) = .fault (.unwrittenSample 3) := ⟨rfl, rfl⟩

theorem test_hyps_OnlyTheirCommandsWrite :
    ∃ t, exec (.regWrite 1 3) known = .next t ∧ (∀ a b, Instr.regWrite 1 3 ≠ .sampleWrite a b) ∧
      (∀ a b, Instr.regWrite 1 3 ≠ .process a b) ∧ (∀ b, Instr.regWrite 1 3 ≠ .sweep b) ∧ Instr.regWrite 1 3 ≠ .reset :=
  ⟨_, rfl, by simp, by simp, by simp, by simp⟩

/-- An all-call reply that verifies: the second clause is the one that holds. -/
theorem test_hyps_CacheSeeding :
    ∃ t, exec (.df11AllCall ⟨5, 0x4840D6, 0xF8740F⟩) (scanning [] 240 .correcting) = .next t :=
  next_of_isSome (by decide +kernel)

theorem test_hyps_OnlySweepRemovesTracks :
    TracksOk known ∧ (∃ t, exec .msgPop known = .next t) ∧ (∀ b, Instr.msgPop ≠ .sweep b) ∧
      Sparse.lookup known.tracks 0 = some (newTrack 0x4840D6 0) := ⟨known_tracksOk, ⟨_, rfl⟩, by simp, rfl⟩

/-- The scan of a buffer that holds frame KLM. -/
def scansKlm : State := scanning (signalMags 0x8D4840D6202CC371C32CE0576098) 240 .scanning

theorem test_hyps_PipelineIgnoresSampleRam :
    (PipelinesTurn scansKlm ∧ ∃ t, step scansKlm = .next t) ∧
      PipelinesTurn (turned scansKlm) ∧ ∃ t, step (turned scansKlm) = .next t :=
  ⟨⟨.inl rfl, next_of_isSome (by decide +kernel)⟩, turned_turn _, next_of_isSome (by decide +kernel)⟩

theorem scansKlm_scanOk : ScanOk scansKlm where
  window := fun _ => by decide
  idle := fun h => by cases h
  notVisible := by decide
  bufferFits := by decide

theorem test_hyps_ScanStepsAdvance :
    (ScansNext scansKlm ∧ ScanOk scansKlm) ∧ ScansNext (turned scansKlm) ∧ ScanOk (turned scansKlm) :=
  ⟨⟨⟨.inl rfl, rfl, rfl⟩, scansKlm_scanOk⟩, ⟨turned_turn _, rfl, rfl⟩,
    ⟨scansKlm_scanOk.window, scansKlm_scanOk.idle, scansKlm_scanOk.notVisible, scansKlm_scanOk.bufferFits⟩⟩

theorem test_hyps_ScanStaysLegal : ScanOk scansKlm ∧ ∃ t, step scansKlm = .next t :=
  ⟨scansKlm_scanOk, next_of_isSome (by decide +kernel)⟩

theorem test_hyps_MemoriesStayCanonical : MemoriesOk scansKlm ∧ ∃ t, step scansKlm = .next t where
  left :=
    { ram := State.reset_ram_wf
      cacheOrder := .nil
      cacheSlots := fun _ h => by cases h
      magFits := by decide +kernel
      magTrimmed := by decide +kernel
      magRange := fun x hx => by
        have : scansKlm.mag.all (fun x => decide (x.toNat ≤ 65167)) = true := by decide +kernel
        exact of_decide_eq_true (List.all_eq_true.mp this x hx) }
  right := next_of_isSome (by decide +kernel)

theorem test_hyps_TracksStayUnique :
    TracksOk (commanded 8 0 60001) ∧ ∃ t, step (commanded 8 0 60001) = .next t :=
  ⟨⟨known_tracksOk.order, known_tracksOk.slots, known_tracksOk.unique, known_tracksOk.positions⟩, _, rfl⟩

theorem test_hyps_TimesNeverRunAhead : TimesOk (commanded 8 0 60001) ∧ ∃ t, step (commanded 8 0 60001) = .next t where
  left :=
    { now := by decide
      seen := by decide
      even := by simp [commanded, known, newTrack]
      odd := by simp [commanded, known, newTrack]
      position := by simp [commanded, known, newTrack]
      records := by decide }
  right := ⟨_, rfl⟩

theorem test_hyps_FifoStaysVerified : FifoOk (commanded 9 0 0) ∧ ∃ t, step (commanded 9 0 0) = .next t where
  left :=
    { depth := by decide
      verified := by decide
      inFrame := by simp [commanded, known, State.record, FixWithin]
      corrected := by decide
      double := by simp [commanded, known, State.record] }
  right := ⟨_, rfl⟩

theorem test_hyps_RegistersStayLegal :
    RegsOk (commanded 0x0102 7 0) ∧ ∃ t, step (commanded 0x0102 7 0) = .next t :=
  ⟨⟨by decide, by decide, by decide, by decide, by decide⟩, _, rfl⟩

end Sys2Proof.Tests
end

/-! The rules of the checksum (43_checksum R220, R221, R224, R226): its parity table against the powers modulo the
generator, the checksum of a frame put together from a body and a checksum field, and the fields and flips of a frame. -/

namespace Sys2Proof.Machine

/-! ### The parity table -/

/-- Multiplication by x modulo the parity generator, of a polynomial written as a number. -/
def timesX (v : Nat) : Nat := if 2 * v < 2 ^ 24 then 2 * v else (2 * v) ^^^ 0x1FFF409

theorem crcPower_succ (e : Nat) : crcPower (e + 1) = timesX (crcPower e) := rfl

/-- Below degree 24 nothing is reduced. -/
theorem crcPower_of_lt {e : Nat} (he : e < 24) : crcPower e = 2 ^ e := by
  induction e with
  | zero => rfl
  | succ e ih =>
    have hlt : 2 ^ (e + 1) < 2 ^ 24 := Nat.pow_lt_pow_right (by decide) he
    rw [crcPower_succ, ih (by omega), timesX, ← Nat.pow_succ', if_pos hlt]

/-- x^24 is what the generator leaves of it. -/
theorem crcPower_24 : crcPower 24 = 0xFFF409 := by
  rw [crcPower_succ, crcPower_of_lt (by decide)]
  decide

@[simp] theorem crcTab_length : crcTab.length = 112 := rfl

/-- Every entry before the last nonzero one is its successor times x. -/
theorem crcTab_entry_eq_timesX_next :
    ∀ k < 87, (crcTab.getD k 0).toNat = timesX (crcTab.getD (k + 1) 0).toNat := by
  decide

/-- The entries from the last nonzero one back are the powers from 24 on. -/
theorem crcPower_eq_entry {i : Nat} (hi : i < 88) : crcPower (24 + i) = (crcTab.getD (87 - i) 0).toNat := by
  induction i with
  | zero => exact crcPower_24
  | succ i ih =>
    rw [← Nat.add_assoc, crcPower_succ, ih (by omega), crcTab_entry_eq_timesX_next (87 - (i + 1)) (by omega),
      show 87 - (i + 1) + 1 = 87 - i by omega]

theorem crcTab_getD_of_lt {k : Nat} (hk : k < 88) : crcTab.getD k 0 = BitVec.ofNat 24 (crcPower (111 - k)) := by
  rw [show 111 - k = 24 + (87 - k) by omega, crcPower_eq_entry (by omega), show 87 - (87 - k) = k by omega,
    BitVec.ofNat_toNat, BitVec.setWidth_eq]

/-- The entries that stand for the checksum field, and all past the table, are zero. -/
theorem crcTab_getD_of_ge {k : Nat} (hk : 88 ≤ k) : crcTab.getD k 0 = 0 := by
  by_cases hlen : k < 112
  · have hzero : ∀ i < 24, crcTab.getD (88 + i) 0 = 0 := by decide
    rw [show k = 88 + (k - 88) by omega]
    exact hzero _ (by omega)
  · rw [List.getD_eq_getElem?_getD, List.getElem?_eq_none (by simp; omega), Option.getD_none]

/-- The whole table (43_checksum R221). -/
theorem crcTab_getElem? {k : Nat} (hk : k < 112) :
    crcTab[k]? = some (if k < 88 then BitVec.ofNat 24 (crcPower (111 - k)) else 0) := by
  have hentry : crcTab[k]? = some (crcTab.getD k 0) := by
    rw [List.getD_eq_getElem _ _ (by simpa using hk), List.getElem?_eq_getElem]
  rw [hentry]
  split
  next hlt => rw [crcTab_getD_of_lt hlt]
  next hge => rw [crcTab_getD_of_ge (by omega)]

/-! ### The checksum of a frame -/

/-- A frame no longer than the table takes the table's last entries. -/
theorem crcTab_drop_getD (n j : Nat) : (crcTab.drop (112 - n)).getD j 0 = crcTab.getD (j + (112 - n)) 0 := by
  rw [List.getD_eq_getElem?_getD, List.getD_eq_getElem?_getD, List.getElem?_drop, Nat.add_comm]

/-- 43_checksum R220. -/
theorem checksum_eq_foldl {n : Nat} (f : BitVec n) (hn : n ≤ 112) :
    checksum f =
      ((List.range n).filter (fun k => f.getMsbD k)).foldl (fun c k => c ^^^ crcTab.getD (k + (112 - n)) 0) 0 := by
  have hlen : n = (crcTab.drop (112 - n)).length := by simp; omega
  rw [checksum, crcFrom_eq f _ 0 n hlen, ← List.range_eq_range']
  simp only [Nat.sub_zero, crcTab_drop_getD]

/-- Only the bits whose table entry is not zero count. -/
theorem crcFrom_congr {n : Nat} {f g : BitVec n} {ts : List U24} {k : Nat}
    (h : ∀ j, ts.getD j 0 = 0 ∨ f.getMsbD (k + j) = g.getMsbD (k + j)) : crcFrom f ts k = crcFrom g ts k := by
  induction ts generalizing k with
  | nil => rfl
  | cons t ts ih =>
    have htail : crcFrom f ts (k + 1) = crcFrom g ts (k + 1) := ih fun j => by
      simpa [Nat.add_assoc, Nat.add_comm 1 j] using h (j + 1)
    have hhead : (if f.getMsbD k then t else 0#24) = if g.getMsbD k then t else 0#24 := by
      rcases h 0 with ht | hbit
      · simp [show t = 0#24 from ht]
      · rw [show f.getMsbD k = g.getMsbD k from hbit]
    rw [crcFrom, crcFrom, hhead, htail]

/-- The checksum field never perturbs the checksum (43_checksum R220). -/
theorem checksum_append_field {m : Nat} (hm : m ≤ 88) (p : BitVec m) (x y : U24) :
    checksum (p ++ x) = checksum (p ++ y) := by
  refine crcFrom_congr fun j => ?_
  rw [Nat.zero_add]
  by_cases hj : j < m
  · right
    rw [BitVec.getMsbD_append, BitVec.getMsbD_append, if_neg (by omega), if_neg (by omega)]
  · left
    rw [crcTab_drop_getD]
    exact crcTab_getD_of_ge (by omega)

@[simp] theorem txField_append {m : Nat} (p : BitVec m) (x : U24) : txField (p ++ x) = x :=
  BitVec.extractLsb'_append_eq_right

/-- A frame with its checksum in the checksum field verifies (43_checksum R223). -/
theorem checksum_sealed {m : Nat} (hm : m ≤ 88) (p : BitVec m) :
    checksum (p ++ checksum (p ++ 0#24)) = txField (p ++ checksum (p ++ 0#24)) := by
  rw [txField_append, checksum_append_field hm p _ 0#24]

/-- An address laid over the checksum is recovered (43_checksum R226). -/
theorem syndrome_sealed_with_address {m : Nat} (hm : m ≤ 88) (p : BitVec m) (a : U24) :
    syndrome (p ++ (checksum (p ++ 0#24) ^^^ a)) = a := by
  rw [syndrome, txField_append, checksum_append_field hm p _ 0#24, ← BitVec.xor_assoc, BitVec.xor_self,
    BitVec.zero_xor]

/-! ### Fields and flips -/

theorem txField_toNat {n : Nat} (f : BitVec n) : (txField f).toNat = f.toNat % 2 ^ 24 := by
  rw [txField, BitVec.extractLsb'_toNat, Nat.shiftRight_zero]

/-- 00_scope R12. -/
theorem icao_toNat {n : Nat} (f : BitVec n) (a w : Nat) :
    (icao f a w).toNat = f.toNat / 2 ^ (n + 1 - a - w) % 2 ^ w := by
  rw [icao, BitVec.extractLsb'_toNat, Nat.shiftRight_eq_div_pow]

/-- The mask of a flip has the bit of its position alone. -/
theorem getMsbD_flipMask {n p : Nat} (hp : p < n) (k : Nat) :
    (BitVec.ofNat n (2 ^ (n - 1 - p))).getMsbD k = decide (k = p) := by
  rw [BitVec.getMsbD, BitVec.getLsbD_ofNat, Nat.testBit_two_pow]
  grind

/-- 43_checksum R224: a flip changes the bit of its position alone. -/
theorem flipBit_getMsbD {n p : Nat} (f : BitVec n) (hp : p < n) (k : Nat) :
    (flipBit f p).getMsbD k = if k = p then !f.getMsbD k else f.getMsbD k := by
  rw [flipBit, BitVec.getMsbD_xor, getMsbD_flipMask hp]
  by_cases h : k = p <;> simp [h]

/-- Settles O26: the checksum field does not enter the checksum, so that sealing is exact; the table's entries are the
powers of x, each the next one's double reduced. -/
theorem sealedFramesVerify : Obligations.SealedFramesVerify := by
  unfold Obligations.SealedFramesVerify
  refine ⟨?verify112, ?verify56, ?address112, ?address56, ?sum112, ?sum56, ?field, ?icao, ?flip, crcTab_length,
    fun _ => crcTab_getElem?⟩
  case verify112 => rintro p _ rfl; exact checksum_sealed (by decide) p
  case verify56 => rintro p _ rfl; exact checksum_sealed (by decide) p
  case address112 => rintro p a _ rfl; exact syndrome_sealed_with_address (by decide) p a
  case address56 => rintro p a _ rfl; exact syndrome_sealed_with_address (by decide) p a
  case sum112 => exact fun f => checksum_eq_foldl f (by decide)
  case sum56 => exact fun f => checksum_eq_foldl f (by decide)
  case field => exact fun _ f => ⟨txField_toNat f, rfl⟩
  case icao => exact fun _ f a w _ _ => icao_toNat f a w
  case flip => exact fun _ f _ k hp => flipBit_getMsbD f hp k

end Sys2Proof.Machine

/-! What one step can do, said once: the effect of a host command (47_commands), of a frame that the pipeline received
(41_preamble R184, R186), and of a whole step (10_state R30). The invariants of the scan, of the FIFO and of the
configuration registers follow. -/

namespace Sys2Proof.Machine

/-! ### Host commands -/

/-- What a host command that does not stop leaves (47_commands R360 to R375). -/
inductive CommandCase (s : State) : State → Prop
  | answers (r : Status) (v : U64) (o : Option RspRecord) : CommandCase s (s.respond r v o)
  | raises (e : Status) : CommandCase s (s.raise e)
  | resets : CommandCase s (s.resetKeepingRam.respond .ok 0#64 none)
  | writesRegister (g : Reg) (a : U64) (idle : s.status.busy = false) (writable : g.writable = true)
      (legal : g.legal a = true) : CommandCase s (State.respond { s with regs := s.regs.write g a } .ok 0#64 none)
  | writesSample (a : Nat) (v : Byte) (idle : s.status.busy = false) (inRam : a < Config.SAMPLE_RAM_BYTES) :
      CommandCase s ((s.writeSample a v).respond .ok 0#64 none)
  | starts (ms : List (BitVec 16)) (n : Nat) (t : U64) (idle : s.status.busy = false)
      (fits : 2 * n ≤ Config.SAMPLE_RAM_BYTES) (later : s.regs.lastTime.toNat ≤ t.toNat)
      (read : magnitudes s.ram n 0 = .ok ms) : CommandCase s ((s.startProcess ms n t).respond .ok 0#64 none)
  | requestsCancel (busy : s.status.busy = true) :
      CommandCase s (State.respond { s with status := { s.status with cancelReq := true } } .ok 0#64 none)
  | sweeps (t v : U64) (idle : s.status.busy = false) (later : s.regs.lastTime.toNat ≤ t.toNat) :
      CommandCase s ((State.sweep { s with regs := { s.regs with lastTime := t } } t).1.respond .ok v none)
  | pops (m : Message) (rest : List Message) (oldest : s.fifo = m :: rest) :
      CommandCase s (State.respond { s with fifo := rest } .ok 0#64 (some (.message m)))
  | inserts (a : U24) (t : U64) (idle : s.status.busy = false) :
      CommandCase s ((s.cacheInsert (a.setWidth 32) t).respond .ok 0#64 none)

/-- A busy command is refused, and otherwise its body runs. -/
theorem CommandCase.of_whenIdle {s t : State} {body : Result} (h : whenIdle s body = .next t)
    (hbody : s.status.busy = false → body = .next t → CommandCase s t) : CommandCase s t := by
  rcases whenIdle_cases s body with ⟨_, hw⟩ | ⟨hidle, hw⟩ <;> rw [hw] at h
  · cases h; exact .raises _
  · exact hbody hidle h

theorem execRegWrite_case {sel : BitVec 8} {a : U64} {s t : State} (h : execRegWrite sel a s = .next t) :
    CommandCase s t := by
  refine .of_whenIdle h fun hidle h => ?_
  split at h
  · cases h; exact .raises _
  · next g _ =>
    split at h
    · cases h; exact .raises _
    · next hw =>
      split at h
      · cases h; exact .raises _
      · next hl => cases h; exact .writesRegister g a hidle (by simpa using hw) (by simpa using hl)

theorem execRegRead_case {sel : BitVec 8} {s t : State} (h : execRegRead sel s = .next t) : CommandCase s t := by
  unfold execRegRead at h
  split at h <;> cases h
  · exact .raises _
  · exact .answers ..

theorem execSampleWrite_case {a b : U64} {s t : State} (h : execSampleWrite a b s = .next t) : CommandCase s t := by
  refine .of_whenIdle h fun hidle h => ?_
  split at h
  · cases h; exact .raises _
  · next ha =>
    split at h <;> cases h
    · exact .raises _
    · exact .writesSample _ _ hidle (by simpa [sampleAddrOk] using ha)

theorem execSampleRead_case {a : U64} {s t : State} (h : execSampleRead a s = .next t) : CommandCase s t := by
  unfold execSampleRead at h
  split at h
  · cases h; exact .raises _
  · split at h <;> cases h
    exact .answers ..

theorem execProcess_case {a b : U64} {s t : State} (h : execProcess a b s = .next t) : CommandCase s t := by
  refine .of_whenIdle h fun hidle h => ?_
  split at h
  · cases h; exact .raises _
  · split at h
    · cases h; exact .raises _
    · next hfits =>
      split at h
      · cases h; exact .raises _
      · next hlater =>
        split at h <;> cases h
        next hread => exact .starts _ _ _ hidle (by omega) (by omega) hread

theorem execCancel_case {s t : State} (h : execCancel s = .next t) : CommandCase s t := by
  unfold execCancel at h
  split at h <;> cases h
  · next hbusy => exact .requestsCancel hbusy
  · exact .answers ..

theorem execSweep_case {b : U64} {s t : State} (h : execSweep b s = .next t) : CommandCase s t := by
  refine .of_whenIdle h fun hidle h => ?_
  split at h <;> cases h
  · exact .raises _
  · next hlater => exact .sweeps b _ hidle (by omega)

theorem execMsgPop_case {s t : State} (h : execMsgPop s = .next t) : CommandCase s t := by
  unfold execMsgPop at h
  split at h <;> cases h
  · exact .answers ..
  · next m rest hfifo => exact .pops m rest hfifo

theorem execTrackRead_case {a : U64} {s t : State} (h : execTrackRead a s = .next t) : CommandCase s t := by
  unfold execTrackRead at h
  split at h
  · cases h; exact .raises _
  · split at h <;> cases h <;> exact .answers ..

theorem execTrackSlot_case {a : U64} {s t : State} (h : execTrackSlot a s = .next t) : CommandCase s t := by
  unfold execTrackSlot at h
  split at h
  · cases h; exact .raises _
  · split at h <;> cases h <;> exact .answers ..

theorem execCacheInsert_case {a b : U64} {s t : State} (h : execCacheInsert a b s = .next t) : CommandCase s t := by
  refine .of_whenIdle h fun hidle h => ?_
  split at h <;> cases h
  · exact .raises _
  · exact .inserts _ _ hidle

theorem execCacheQuery_case {a b : U64} {s t : State} (h : execCacheQuery a b s = .next t) : CommandCase s t := by
  unfold execCacheQuery at h
  split at h <;> cases h
  · exact .raises _
  · exact .answers ..

/-- Every command word runs a host command. -/
theorem exec_decodeCommand_case {w : U32} {a b : U64} {s t : State} (h : exec (decodeCommand w a b) s = .next t) :
    CommandCase s t := by
  unfold decodeCommand at h
  split at h
  · cases h; exact .raises _
  · split at h
    case h_1 => cases h; exact .answers ..
    case h_2 => cases h; exact .resets
    case h_3 => exact execRegWrite_case h
    case h_4 => exact execRegRead_case h
    case h_5 => exact execSampleWrite_case h
    case h_6 => exact execSampleRead_case h
    case h_7 => exact execProcess_case h
    case h_8 => exact execCancel_case h
    case h_9 => exact execSweep_case h
    case h_10 => exact execMsgPop_case h
    case h_11 => exact execTrackRead_case h
    case h_12 => exact execTrackSlot_case h
    case h_13 => exact execCacheInsert_case h
    case h_14 => exact execCacheQuery_case h
    case h_15 => cases h; exact .raises _

/-! ### Received frames -/

/-- What the FIFO asks of each record (10_state R51, 43_checksum R224, R225). -/
structure RecordOk (m : Message) : Prop where
  verified : m.crcOk = true
  inFrame : FixWithin m.frame.nbits m.correctedBit
  corrected : m.correctedBit ≠ .none → m.df = 11 ∨ m.df = 17
  double : ∀ p q, m.correctedBit = .double p q → m.df = 17

theorem fixWithin_none (n : Nat) : FixWithin n .none := ⟨by simp, by simp⟩

theorem fixWithin_single {n p : Nat} (hp : p < n) (hn : n ≤ 112) : FixWithin n (.single (BitVec.ofNat 7 p)) := by
  refine ⟨fun _ h => ?_, by simp⟩
  cases h
  rw [BitVec.toNat_ofNat]
  omega

theorem fixWithin_double {n p q : Nat} (hpq : p < q) (hq : q < n) (hn : n ≤ 112) :
    FixWithin n (.double (BitVec.ofNat 7 p) (BitVec.ofNat 7 q)) := by
  refine ⟨by simp, fun _ _ h => ?_⟩
  cases h
  rw [BitVec.toNat_ofNat, BitVec.toNat_ofNat]
  omega

theorem State.record_ok_of_none (s : State) (df : BitVec 5) (cap : BitVec 3) (a : U24) (f : Frame) (p : Payload) :
    RecordOk (s.record df cap a .none f p) :=
  ⟨rfl, fixWithin_none _, fun h => absurd rfl h, fun _ _ h => nomatch h⟩

/-! The lookups of FIX1 and FIX2 find positions of the frame. -/

theorem firstEqual_bounds {t : U24} {l : List U24} {p q : Nat} (h : firstEqual t l p = some q) :
    p ≤ q ∧ q < p + l.length := by
  induction l generalizing p with
  | nil => cases h
  | cons x xs ih =>
    rw [List.length_cons]
    rw [firstEqual] at h
    split at h
    · cases h; omega
    · have := ih h; omega

theorem firstPairEqual_bounds {t : U24} {l : List U24} {p q r : Nat} (h : firstPairEqual t l p = some (q, r)) :
    p ≤ q ∧ q < r ∧ r < p + l.length := by
  induction l generalizing p with
  | nil => cases h
  | cons x xs ih =>
    rw [List.length_cons]
    rw [firstPairEqual] at h
    split at h
    · next hfirst =>
      cases h
      have := firstEqual_bounds hfirst
      omega
    · have := ih h; omega

theorem flipSyndromes_length {n : Nat} (h24 : 24 ≤ n) (h112 : n ≤ 112) : (flipSyndromes n).length = n := by
  simp only [flipSyndromes, List.length_append, List.length_take, List.length_drop, List.length_map, List.length_range,
    crcTab_length]
  omega

theorem fix1_lt {n p : Nat} {f : BitVec n} (h24 : 24 ≤ n) (h112 : n ≤ 112) (h : fix1 f = some p) : p < n := by
  have := firstEqual_bounds h
  rw [flipSyndromes_length h24 h112] at this
  omega

theorem fix2_lt {n p q : Nat} {f : BitVec n} (h24 : 24 ≤ n) (h112 : n ≤ 112) (h : fix2 f = some (p, q)) :
    p < q ∧ q < n := by
  have := firstPairEqual_bounds h
  rw [flipSyndromes_length h24 h112] at this
  omega

/-- How a received frame ends: a message that the FIFO may hold is accepted, at a state that the checksum stage
prepared, or the attempt is rejected. (An ME instruction with a made-up head need not end so: log 14.) -/
inductive ReceivedCase (s : State) : Result → Prop
  | accepts (u : State) (m : Message) (prepared : Prepared s u) (ok : RecordOk m) (time : m.timestamp = s.scan.now)
      (place : m.offset = s.scan.j) : ReceivedCase s (.next (u.accept m))
  | rejects (c : Cnt) : ReceivedCase s (.next (s.reject c))

theorem State.verifyAp_case (s : State) (f : Frame) (p : Payload) : ReceivedCase s (.next (s.verifyAp f p)) := by
  rcases s.verifyAp_cases f p with ⟨_, h⟩ | ⟨_, h⟩ <;> rw [h]
  · exact .accepts _ _ ⟨rfl, rfl, rfl, rfl, rfl, rfl, rfl, rfl, rfl, rfl, rfl, .inl rfl⟩
      (State.record_ok_of_none ..) rfl rfl
  · exact .rejects _

/-- An all-call reply with at most one flip, inside its 56 bits, is accepted. -/
theorem State.acceptAllCall_case {s u : State} {fix : BitFix} (f : BitVec 56) (hu : Prepared s u)
    (hfix : FixWithin 56 fix) (hone : ∀ p q, fix ≠ .double p q) :
    ReceivedCase s (.next (u.acceptAllCall fix f)) :=
  .accepts u _ hu ⟨rfl, hfix, fun _ => .inl rfl, fun p q h => absurd h (hone p q)⟩
    (congrArg Scan.now hu.scan) (congrArg Scan.j hu.scan)

theorem execDf11AllCall_case (f : AllCall) (s : State) : ReceivedCase s (execDf11AllCall f s) := by
  rcases execDf11AllCall_cases f s _ rfl with ⟨_, h⟩ | ⟨_, p, hp, h⟩ | ⟨_, _, h⟩ <;> rw [h]
  · exact State.acceptAllCall_case _ ⟨rfl, rfl, rfl, rfl, rfl, rfl, rfl, rfl, rfl, rfl, rfl, .inr ⟨_, rfl⟩⟩
      (fixWithin_none _) (by simp)
  · exact State.acceptAllCall_case _ ⟨rfl, rfl, rfl, rfl, rfl, rfl, rfl, rfl, rfl, rfl, rfl, .inl rfl⟩
      (fixWithin_single (fix1_lt (by decide) (by decide) hp) (by decide)) (by simp)
  · exact .rejects _

/-- A squitter with its flips inside its 112 bits is accepted. -/
theorem decodeSquitter_case {s u : State} {fix : BitFix} (f : BitVec 112) (hu : Prepared s u)
    (hfix : FixWithin 112 fix) : ReceivedCase s (decodeSquitter u fix f) := by
  obtain ⟨g, p, hx⟩ := execSquitter_accepts (SquitterHead.ofFrame fix f) f u
  rw [decodeSquitter, hx]
  exact .accepts u _ hu ⟨rfl, hfix, fun _ => .inr rfl, fun _ _ _ => rfl⟩
    (congrArg Scan.now hu.scan) (congrArg Scan.j hu.scan)

theorem execDf17ExtSquitter_case (f : ExtSquitter) (s : State) : ReceivedCase s (execDf17ExtSquitter f s) := by
  rcases execDf17ExtSquitter_cases f s _ rfl with ⟨_, h⟩ | ⟨_, p, hp, h⟩ | ⟨_, _, _, p, q, hpq, h⟩ | ⟨_, _, _, h⟩ <;>
    rw [h]
  · exact decodeSquitter_case _ ⟨rfl, rfl, rfl, rfl, rfl, rfl, rfl, rfl, rfl, rfl, rfl, .inr ⟨_, rfl⟩⟩
      (fixWithin_none _)
  · exact decodeSquitter_case _ ⟨rfl, rfl, rfl, rfl, rfl, rfl, rfl, rfl, rfl, rfl, rfl, .inl rfl⟩
      (fixWithin_single (fix1_lt (by decide) (by decide) hp) (by decide))
  · obtain ⟨hlt, hq⟩ := fix2_lt (by decide) (by decide) hpq
    exact decodeSquitter_case _ ⟨rfl, rfl, rfl, rfl, rfl, rfl, rfl, rfl, rfl, rfl, rfl, .inl rfl⟩
      (fixWithin_double hlt hq (by decide))
  · exact .rejects _

/-- Every frame the DF dispatch reads is verified and accepted, or rejected (41_preamble R184, R186). -/
theorem exec_decodeReceived_case (f : BitVec 112) (s : State) : ReceivedCase s (exec (decodeReceived f) s) := by
  unfold decodeReceived
  split
  case h_1 | h_5 | h_6 | h_17 | h_21 | h_22 | h_25 => exact s.verifyAp_case _ _
  case h_12 => exact execDf11AllCall_case _ s
  case h_18 => exact execDf17ExtSquitter_case _ s
  all_goals exact .rejects .dfUnsupported

/-! ### Whole steps -/

/-- u is s with what stages 1 to 5 of an attempt write: PST, the counter of the attempt and the datapath
(41_preamble R184, R186). -/
structure Attempting (s u : State) : Prop where
  regs : u.regs = s.regs
  status : u.status = s.status
  scan : u.scan = { s.scan with pst := if s.scan.pst = .scanning then .candidateFound else s.scan.pst }
  cache : u.cache = s.cache
  tracks : u.tracks = s.tracks
  fifo : u.fifo = s.fifo
  ram : u.ram = s.ram
  mag : u.mag = s.mag
  rsp : u.rsp = s.rsp
  schedule : u.schedule = s.schedule

/-- What a turn of the pipeline that does not stop leaves (41_preamble R186, R187, 60_exceptions R404). -/
inductive PipelineCase (s : State) : State → Prop
  | idle (notBusy : s.status.busy = false) : PipelineCase s s
  | cancels (busy : s.status.busy = true) : PipelineCase s s.cancelRun
  | skips (busy : s.status.busy = true) (notCancelled : s.status.cancelReq = false)
      (scanning : s.scan.pst = .scanning) : PipelineCase s (s.moveTo (s.scan.j + 1) .scanning).finish
  | rejects (u : State) (c : Cnt) (busy : s.status.busy = true) (notCancelled : s.status.cancelReq = false)
      (attempting : Attempting s u) : PipelineCase s (u.reject c)
  | accepts (u v : State) (m : Message) (busy : s.status.busy = true) (notCancelled : s.status.cancelReq = false)
      (attempting : Attempting s u) (prepared : Prepared u v) (ok : RecordOk m) (time : m.timestamp = u.scan.now)
      (place : m.offset = u.scan.j) : PipelineCase s (v.accept m)

/-- What step does with what a turn gives. -/
def Fetched.outcome : Fetched → Result
  | .done t => .next t
  | .run i t => exec i t

theorem step_eq_outcome (s : State) : step s = s.fetch.outcome := rfl

theorem State.attempt_case {s u t : State} (hbusy : s.status.busy = true) (hcancel : s.status.cancelReq = false)
    (hu : Attempting s u) (h : u.attempt.outcome = .next t) : PipelineCase s t := by
  have hdp : ∀ d : Datapath, Attempting s { u with dp := d } := fun _ =>
    ⟨hu.regs, hu.status, hu.scan, hu.cache, hu.tracks, hu.fifo, hu.ram, hu.mag, hu.rsp, hu.schedule⟩
  rw [u.attempt_eq _ rfl] at h
  generalize (if u.regs.ctrl.getLsbD 0 = true then 2 else 0) = limit at h
  split at h
  · cases h; exact .rejects _ _ hbusy hcancel (hdp _)
  · split at h
    · cases h; exact .rejects _ _ hbusy hcancel (hdp _)
    · change exec _ _ = _ at h
      have hcase := exec_decodeReceived_case (frameOfWindow u.dp.win) { u with dp := slicedDatapath u.dp.win }
      rw [h] at hcase
      cases hcase with
      | accepts v m hv hok htime hplace => exact .accepts _ v m hbusy hcancel (hdp _) hv hok htime hplace
      | rejects c => exact .rejects _ c hbusy hcancel (hdp _)

@[simp] theorem State.correctWindow_eq (s : State) :
    s.correctWindow = { s with dp := { s.dp with win := phaseCorrect .high s.dp.win } } := if_pos (.inl rfl)

theorem State.scanStep_case {s t : State} (hbusy : s.status.busy = true) (h : s.scanStep.outcome = .next t) :
    PipelineCase s t := by
  unfold State.scanStep at h
  split at h
  · cases h; exact .cancels hbusy
  · next hcancel =>
    rw [Bool.not_eq_true] at hcancel
    split at h
    · next hscan =>
      split at h
      · refine State.attempt_case hbusy hcancel ?_ h
        exact ⟨rfl, rfl, by simp [hscan], rfl, rfl, rfl, rfl, rfl, rfl, rfl⟩
      · cases h; rw [hscan]; exact .skips hbusy hcancel hscan
    · next hscan =>
      rw [State.correctWindow_eq] at h
      refine State.attempt_case hbusy hcancel ?_ h
      exact ⟨rfl, rfl, by simp [hscan], rfl, rfl, rfl, rfl, rfl, rfl, rfl⟩

theorem State.pipelineTurn_case {s t : State} (h : s.pipelineTurn.outcome = .next t) : PipelineCase s t := by
  unfold State.pipelineTurn at h
  split at h
  · next hbusy => exact State.scanStep_case hbusy h
  · next hbusy => cases h; exact .idle (by simpa using hbusy)

/-- A step runs a host command or a turn of the pipeline, at the state with that turn taken off the schedule (log 1). -/
theorem step_cases {s t : State} (h : step s = .next t) :
    CommandCase { s with schedule := s.schedule.tail } t ∨ PipelineCase { s with schedule := s.schedule.tail } t := by
  rw [step_eq_outcome] at h
  match hs : s.schedule with
  | .command w a b :: rest =>
    rw [State.fetch, hs] at h
    exact .inl (exec_decodeCommand_case h)
  | .pipeline :: rest =>
    rw [State.fetch_pipelinesTurn (.inr ⟨rest, hs⟩), hs] at h
    exact .inr (State.pipelineTurn_case h)
  | [] =>
    rw [State.fetch_pipelinesTurn (.inl hs), hs] at h
    exact .inr (State.pipelineTurn_case h)

/-- A predicate of the state that does not read the schedule, and that every host command and every turn of the pipeline
keeps, every step keeps. -/
theorem step_keeps {P : State → Prop} (hturn : ∀ s, P s → P { s with schedule := s.schedule.tail })
    (hcommand : ∀ s t, P s → CommandCase s t → P t) (hpipeline : ∀ s t, P s → PipelineCase s t → P t) (s t : State)
    (hs : P s) (h : step s = .next t) : P t :=
  (step_cases h).elim (hcommand _ t (hturn s hs)) (hpipeline _ t (hturn s hs))

/-! ### The scan registers -/

/-- The end of a scan step restores what a running scan keeps, whatever J has become (41_preamble R185). -/
theorem State.finish_scanOk {s : State} (hbusy : s.status.busy = true) (hcancel : s.status.cancelReq = false)
    (hpst : s.scan.pst ≠ .candidateFound) (hn : s.scan.n.toNat ≤ 131311) : ScanOk s.finish := by
  rcases s.finish_cases with ⟨_, hscan, hstatus⟩ | ⟨hfits, h⟩
  · exact ⟨by simp [hstatus], by simp [hscan, hstatus, hcancel], by simp [hscan], by simpa [hscan] using hn⟩
  · rw [h]
    exact ⟨fun _ => hfits, by simp [hbusy], hpst, hn⟩

theorem CommandCase.scanOk {s t : State} (h : CommandCase s t) (hs : ScanOk s) : ScanOk t := by
  obtain ⟨hwindow, hidle, hvisible, hfits⟩ := hs
  cases h with
  | resets =>
    exact ⟨by simp [StatusBits.reset], by simp [Scan.reset, StatusBits.reset], by simp [Scan.reset],
      by simp [Scan.reset]⟩
  | starts ms n _ _ hn =>
    have hlt : n ≤ 131311 := by simp [Config.SAMPLE_RAM_BYTES] at hn; omega
    have htoNat : (BitVec.ofNat 32 n).toNat = n := by rw [BitVec.toNat_ofNat]; omega
    exact ⟨by simp; omega, by simp, by simp, by simp; omega⟩
  | requestsCancel hbusy => exact ⟨hwindow, by simp [hbusy], hvisible, hfits⟩
  | _ => exact ⟨hwindow, hidle, hvisible, hfits⟩

theorem Attempting.reject_scanOk {s u : State} (c : Cnt) (hu : Attempting s u) (hbusy : s.status.busy = true)
    (hcancel : s.status.cancelReq = false) (hn : s.scan.n.toNat ≤ 131311) : ScanOk (u.reject c) := by
  rcases (u.count c).afterReject_cases with ⟨_, _, h⟩ | ⟨_, h⟩ <;>
    · rw [State.reject, h]
      exact State.finish_scanOk (by simpa [hu.status]) (by simpa [hu.status]) (by simp) (by simpa [hu.scan])

theorem Attempting.accept_scanOk {s u v : State} (m : Message) (hu : Attempting s u) (hv : Prepared u v)
    (hbusy : s.status.busy = true) (hcancel : s.status.cancelReq = false) (hn : s.scan.n.toNat ≤ 131311) :
    ScanOk (v.accept m) :=
  State.finish_scanOk (by simpa [hv.status, hu.status]) (by simpa [hv.status, hu.status]) (by simp)
    (by simpa [hv.scan, hu.scan])

theorem PipelineCase.scanOk {s t : State} (h : PipelineCase s t) (hs : ScanOk s) : ScanOk t := by
  cases h with
  | idle => exact hs
  | cancels => exact ⟨by simp, by simp, by simp, hs.bufferFits⟩
  | skips hbusy hcancel => exact State.finish_scanOk hbusy hcancel (by simp) hs.bufferFits
  | rejects u c hbusy hcancel hu => exact hu.reject_scanOk c hbusy hcancel hs.bufferFits
  | accepts u v m hbusy hcancel hu hv => exact hu.accept_scanOk m hv hbusy hcancel hs.bufferFits

/-- Settles O54: every scan step ends in `finish`, which restores the window, and a PROCESS starts inside its buffer. -/
theorem scanStaysLegal : Obligations.ScanStaysLegal :=
  step_keeps (fun _ ⟨hwindow, hidle, hvisible, hfits⟩ => ⟨hwindow, hidle, hvisible, hfits⟩)
    (fun _ _ hs h => h.scanOk hs) (fun _ _ hs h => h.scanOk hs)

/-! ### The message FIFO -/

theorem fifoOk_iff (s : State) : FifoOk s ↔ s.fifo.length ≤ 64 ∧ ∀ m ∈ s.fifo, RecordOk m := by
  constructor
  · rintro ⟨hdepth, hverified, hframe, hcorrected, hdouble⟩
    exact ⟨hdepth, fun m hm => ⟨hverified m hm, hframe m hm, hcorrected m hm, hdouble m hm⟩⟩
  · rintro ⟨hdepth, hok⟩
    exact ⟨hdepth, fun m hm => (hok m hm).verified, fun m hm => (hok m hm).inFrame,
      fun m hm => (hok m hm).corrected, fun m hm => (hok m hm).double⟩

/-- FifoOk reads the FIFO alone. -/
theorem FifoOk.congr {s t : State} (h : t.fifo = s.fifo) (hs : FifoOk s) : FifoOk t := by
  rw [fifoOk_iff] at *
  rwa [h]

theorem CommandCase.fifoOk {s t : State} (h : CommandCase s t) (hs : FifoOk s) : FifoOk t := by
  cases h with
  | resets => exact (fifoOk_iff _).2 ⟨by simp, by simp⟩
  | pops m rest hfifo =>
    rw [fifoOk_iff, hfifo, List.length_cons] at hs
    exact (fifoOk_iff _).2 ⟨Nat.le_of_succ_le hs.1, fun r hr => hs.2 r (List.mem_cons_of_mem _ hr)⟩
  | _ => exact hs.congr (by rfl)

/-- An acceptance appends its record where there is room (10_state R51). -/
theorem State.accept_fifoOk {s : State} {m : Message} (hs : FifoOk s) (hm : RecordOk m) : FifoOk (s.accept m) := by
  rw [fifoOk_iff] at *
  rw [State.accept_fifo]
  split
  · next hroom =>
    refine ⟨by simpa using hroom, fun r hr => ?_⟩
    rcases List.mem_append.1 hr with hr | hr
    · exact hs.2 r hr
    · rw [List.mem_singleton.1 hr]; exact hm
  · exact hs

theorem PipelineCase.fifoOk {s t : State} (h : PipelineCase s t) (hs : FifoOk s) : FifoOk t := by
  cases h with
  | idle => exact hs
  | cancels => exact hs.congr (by rfl)
  | skips => exact hs.congr (by simp)
  | rejects u c _ _ hu => exact hs.congr (by simp [hu.fifo])
  | accepts u v m _ _ hu hv hm => exact State.accept_fifoOk (hs.congr (hv.fifo.trans hu.fifo)) hm

/-- Settles O58: only an acceptance adds a record, where there is room, and its flips are positions that the syndrome
lookups found in its own frame. -/
theorem fifoStaysVerified : Obligations.FifoStaysVerified :=
  step_keeps (fun _ hs => hs.congr (by rfl)) (fun _ _ hs h => h.fifoOk hs) (fun _ _ hs h => h.fifoOk hs)

end Sys2Proof.Machine

/-! Legal register values (10_state R41 to R44): a binary64 value is finite and within a whole number of degrees exactly
when its pattern without the sign is not above the pattern of that number. Every step keeps the configuration registers
legal. -/

namespace Sys2Proof.Machine

/-! ### The sign of a binary64 value -/

theorem F64.abs_toNat (x : F64) : (F64.abs x).toNat = x.toNat % 2 ^ 63 := by
  rw [F64.abs, BitVec.toNat_and, BitVec.toNat_ofNat, Nat.mod_eq_of_lt (by decide), Nat.and_two_pow_sub_one_eq_mod]

/-- Only the bit above the exponent and the fraction is lost. -/
theorem F64.extractLsb'_abs (x : F64) {start len : Nat} (h : start + len ≤ 63) :
    (F64.abs x).extractLsb' start len = x.extractLsb' start len := by
  ext i hi
  rw [BitVec.getElem_extractLsb', BitVec.getElem_extractLsb', F64.abs, BitVec.getLsbD_and, BitVec.getLsbD_ofNat,
    Nat.testBit_two_pow_sub_one]
  have h63 : start + i < 63 := by omega
  have h64 : start + i < 64 := by omega
  simp [h63, h64]

@[simp] theorem F64.expField_abs (x : F64) : F64.expField (F64.abs x) = F64.expField x := by
  rw [F64.expField, F64.extractLsb'_abs x (by decide), F64.expField]

@[simp] theorem F64.frac_abs (x : F64) : F64.frac (F64.abs x) = F64.frac x := by
  rw [F64.frac, F64.extractLsb'_abs x (by decide), F64.frac]

@[simp] theorem F64.units_abs (x : F64) : F64.units (F64.abs x) = F64.units x := by
  simp only [F64.units, F64.expField_abs, F64.frac_abs]

theorem F64.signedUnits_cases (x : F64) :
    F64.signedUnits x = F64.units x ∨ F64.signedUnits x = -(F64.units x : Int) := by
  rw [F64.signedUnits]
  split
  · exact .inr rfl
  · exact .inl rfl

/-! ### Values within a bound -/

theorem F64.isNaN_of_isFinite {x : F64} (h : F64.isFinite x = true) : F64.isNaN x = false := by
  rw [F64.isFinite, bne_iff_ne] at h
  simp [F64.isNaN, h]

/-- A finite value has a pattern below that of the infinity. -/
theorem F64.isFinite_iff (x : F64) : F64.isFinite x = true ↔ (F64.abs x).toNat < 0x7FF0000000000000 := by
  have habs := F64.abs_toNat x
  have hfrac : F64.frac x < 2 ^ 52 := (x.extractLsb' 0 52).isLt
  have hexp : F64.expField x < 2 ^ 11 := (x.extractLsb' 52 11).isLt
  rw [F64.toNat_eq (F64.abs x) (by omega), F64.expField_abs, F64.frac_abs, F64.isFinite, bne_iff_ne]
  omega

/-- Magnitudes compare as the patterns without the sign. -/
theorem F64.units_le_iff {x y : F64} (hy : y.toNat < 2 ^ 63) :
    F64.units x ≤ F64.units y ↔ (F64.abs x).toNat ≤ y.toNat := by
  have hx : (F64.abs x).toNat < 2 ^ 63 := by rw [F64.abs_toNat]; omega
  rw [← F64.units_abs x]
  generalize F64.abs x = a at hx
  constructor
  · intro h
    by_contra hlt
    exact absurd (F64.units_lt hy hx (by omega)) (by omega)
  · intro h
    rcases Nat.lt_or_eq_of_le h with hlt | heq
    · exact Nat.le_of_lt (F64.units_lt hx hy hlt)
    · rw [BitVec.eq_of_toNat_eq heq]

theorem F64.abs_negate (x : F64) : F64.abs (F64.negate x) = F64.abs x := by
  apply BitVec.eq_of_toNat_eq
  rw [F64.abs_toNat, F64.abs_toNat, F64.negate, BitVec.toNat_xor, Nat.xor_mod_two_pow]
  exact Nat.xor_zero _

theorem F64.signedUnits_negate {x : F64} (h : x.toNat < 2 ^ 63) :
    F64.signedUnits (F64.negate x) = -(F64.units x : Int) := by
  have hunits : F64.units (F64.negate x) = F64.units x := by
    rw [← F64.units_abs, F64.abs_negate, F64.units_abs]
  have hmsb : x.msb = false := by rw [BitVec.msb_eq_decide, decide_eq_false_iff_not]; omega
  have hneg : F64.neg? (F64.negate x) = true := by
    rw [F64.neg?, F64.negate, BitVec.msb_xor, hmsb]
    decide
  rw [F64.signedUnits, if_pos hneg, hunits]

/-- A value within [−b, b] is one whose pattern without the sign is not above that of b (10_state R42). -/
theorem degreesOk_iff {bound : Nat} {b : F64} (hb : F64.ofNat bound = b)
    (hneg : F64.ofInt (-(bound : Int)) = F64.negate b) (hfin : b.toNat < 0x7FF0000000000000) (v : F64) :
    degreesOk v bound = true ↔ (F64.abs v).toNat ≤ b.toNat := by
  have hpos : b.toNat < 2 ^ 63 := by omega
  have habs : F64.abs b = b := BitVec.eq_of_toNat_eq (by rw [F64.abs_toNat, Nat.mod_eq_of_lt hpos])
  have hbfin : F64.isNaN b = false := F64.isNaN_of_isFinite ((F64.isFinite_iff b).2 (habs.symm ▸ hfin))
  have hnfin : F64.isNaN (F64.negate b) = false :=
    F64.isNaN_of_isFinite ((F64.isFinite_iff _).2 (by rw [F64.abs_negate, habs]; exact hfin))
  have hinterval : -(F64.units b : Int) ≤ F64.signedUnits v ∧ F64.signedUnits v ≤ F64.units b ↔
      F64.units v ≤ F64.units b := by
    rcases F64.signedUnits_cases v with h | h <;> omega
  have hle : F64.isFinite v = true → (degreesOk v bound = true ↔ F64.units v ≤ F64.units b) := by
    intro hv
    rw [← hinterval, degreesOk, hb, hneg, hv, F64.le, F64.le, F64.isNaN_of_isFinite hv, hbfin, hnfin,
      F64.signedUnits_negate hpos, F64.signedUnits_eq hpos]
    simp
  have hfinite : degreesOk v bound = true → F64.isFinite v = true := by
    rw [degreesOk, Bool.and_eq_true, Bool.and_eq_true]
    exact fun ⟨⟨hv, _⟩, _⟩ => hv
  have hbelow : F64.units v ≤ F64.units b → F64.isFinite v = true := fun h =>
    (F64.isFinite_iff v).2 (Nat.lt_of_le_of_lt ((F64.units_le_iff hpos).1 h) hfin)
  rw [← F64.units_le_iff hpos]
  exact ⟨fun h => (hle (hfinite h)).1 h, fun h => (hle (hbelow h)).2 h⟩

theorem degreesOk_90_iff (v : F64) : degreesOk v 90 = true ↔ (F64.abs v).toNat ≤ 0x4056800000000000 :=
  degreesOk_iff (b := 0x4056800000000000) (by decide +kernel) (by decide +kernel) (by decide) v

theorem degreesOk_180_iff (v : F64) : degreesOk v 180 = true ↔ (F64.abs v).toNat ≤ 0x4066800000000000 :=
  degreesOk_iff (b := 0x4066800000000000) (by decide +kernel) (by decide +kernel) (by decide) v

/-! ### The configuration registers -/

/-- The bits from k up are zero exactly when the number is below 2^k. -/
theorem extractLsb'_high_eq_zero_iff {k len : Nat} (v : U64) (h : k + len = 64) :
    v.extractLsb' k len = 0#len ↔ v.toNat < 2 ^ k := by
  have hlt : v.toNat / 2 ^ k < 2 ^ len := by
    rw [Nat.div_lt_iff_lt_mul (Nat.two_pow_pos k), ← Nat.pow_add, Nat.add_comm, h]
    exact v.isLt
  rw [← BitVec.toNat_inj, BitVec.extractLsb'_toNat, Nat.shiftRight_eq_div_pow, Nat.mod_eq_of_lt hlt]
  simp [Nat.div_eq_zero_iff]

/-- REG_WRITE of a legal value keeps the registers legal (47_commands R362). -/
theorem RegsOk.write {s : State} {g : Reg} {v : U64} (hs : RegsOk s) (hw : g.writable = true)
    (hl : g.legal v = true) : RegsOk { s with regs := s.regs.write g v } := by
  obtain ⟨hctrl, hlat, hlon, hrange, httl⟩ := hs
  cases g with
  | ctrl =>
    have hhigh : v.extractLsb' 3 61 = 0#61 := by simpa [Reg.legal] using hl
    exact ⟨(extractLsb'_high_eq_zero_iff v rfl).1 hhigh, hlat, hlon, hrange, httl⟩
  | homeLat => exact ⟨hctrl, (degreesOk_90_iff v).1 hl, hlon, hrange, httl⟩
  | homeLon => exact ⟨hctrl, hlat, (degreesOk_180_iff v).1 hl, hrange, httl⟩
  | maxRangeM =>
    have hhigh : v.extractLsb' 32 32 = 0#32 := by simpa [Reg.legal] using hl
    exact ⟨hctrl, hlat, hlon, (extractLsb'_high_eq_zero_iff v rfl).1 hhigh, httl⟩
  | trackTtlMs =>
    obtain ⟨hhigh, hzero⟩ : v.extractLsb' 32 32 = 0#32 ∧ v ≠ 0#64 := by simpa [Reg.legal] using hl
    have hpos : 0 < v.toNat := by
      rw [Nat.pos_iff_ne_zero]
      exact fun h => hzero (BitVec.eq_of_toNat_eq h)
    exact ⟨hctrl, hlat, hlon, hrange, hpos, (extractLsb'_high_eq_zero_iff v rfl).1 hhigh⟩
  | ident | status | lastTime | lastAccepted | scanPos | fifoCount | trackCount | counter i => cases hw

/-- RegsOk reads the five writable registers alone. -/
theorem RegsOk.congr {s t : State} (h : t.regs = { s.regs with lastTime := t.regs.lastTime }) (hs : RegsOk s) :
    RegsOk t := by
  obtain ⟨hctrl, hlat, hlon, hrange, httl⟩ := hs
  exact ⟨by rwa [h], by rwa [h], by rwa [h], by rwa [h], by rwa [h]⟩

theorem State.reset_regsOk : RegsOk State.reset := ⟨by decide, by decide, by decide, by decide, by decide⟩

theorem CommandCase.regsOk {s t : State} (h : CommandCase s t) (hs : RegsOk s) : RegsOk t := by
  cases h with
  | resets => exact State.reset_regsOk.congr (by rfl)
  | writesRegister g a _ hw hl => exact (hs.write hw hl).congr (by rfl)
  | _ => exact hs.congr (by rfl)

theorem PipelineCase.regs {s t : State} (h : PipelineCase s t) : t.regs = s.regs := by
  cases h with
  | idle => rfl
  | cancels => rfl
  | skips => simp
  | rejects u c _ _ hu => simp [hu.regs]
  | accepts u v m _ _ hu hv => simp [hu.regs, hv.regs]

/-- Settles O59: REG_WRITE checks the value it writes, RESET writes legal ones, and nothing else writes these registers
(LAST_TIME is not one of them). -/
theorem registersStayLegal : Obligations.RegistersStayLegal :=
  step_keeps (fun _ hs => hs.congr (by rfl)) (fun _ _ hs h => h.regsOk hs)
    (fun _ _ hs h => hs.congr (by rw [h.regs]))

end Sys2Proof.Machine

/-! The register map as numbers (10_state R40, R45, R46), and the scan step whose window passes (41_preamble R184,
R186). -/

namespace Sys2Proof.Machine

/-! ### Reading a register -/

theorem toNat_append_add {m n : Nat} (x : BitVec m) (y : BitVec n) :
    (x ++ y).toNat = 2 ^ n * x.toNat + y.toNat := by
  rw [BitVec.toNat_append, Nat.shiftLeft_eq, Nat.mul_comm, Nat.two_pow_add_eq_or_of_lt y.isLt]

@[simp] theorem bit_toNat (b : Bool) : (bit b).toNat = b.toNat := by cases b <;> rfl

/-- The fields of STATUS in their places (10_state R45). -/
theorem StatusBits.view_eq (t : StatusBits) :
    t.view =
      BitVec.ofNat 64 (t.busy.toNat + 2 * t.cancelReq.toNat + 4 * t.cancelled.toNat + 256 * t.lastErr.toNat) := by
  have hbusy := Bool.toNat_lt t.busy
  have hreq := Bool.toNat_lt t.cancelReq
  have hcancelled := Bool.toNat_lt t.cancelled
  have herr := t.lastErr.isLt
  apply BitVec.eq_of_toNat_eq
  simp only [StatusBits.view, toNat_append_add, bit_toNat, BitVec.toNat_ofNat]
  omega

/-- The selectors that name no register (10_state R40). -/
theorem registerAt_undefined (s : State) {n : Nat} (h12 : 0x0C ≤ n) (h : n < 0x20 ∨ 0x38 ≤ n) :
    registerAt s n = none := by
  apply registerAt.eq_37
  all_goals intro hn; omega

/-- From 0x0C on a selector names a counter or nothing. -/
theorem regOf_high {sel : BitVec 8} (h12 : 0x0C ≤ sel.toNat) :
    regOf sel =
      if h : 0x20 ≤ sel.toNat ∧ sel.toNat < 0x38 then some (.counter ⟨sel.toNat - 0x20, by omega⟩) else none := by
  unfold regOf
  split
  case h_13 => rfl
  all_goals omega

theorem Cnt.exists_index (i : Fin 24) : ∃ c : Cnt, c.index = i := by
  fin_cases i
  exacts [⟨.preamble, rfl⟩, ⟨.phaseRetry, rfl⟩, ⟨.rejErrBits, rfl⟩, ⟨.rejEnergy, rfl⟩, ⟨.dfUnsupported, rfl⟩,
    ⟨.crcGood, rfl⟩, ⟨.fix1, rfl⟩, ⟨.fix2, rfl⟩, ⟨.crcBad, rfl⟩, ⟨.apOk, rfl⟩, ⟨.apUnknown, rfl⟩, ⟨.accepted, rfl⟩,
    ⟨.phaseGood, rfl⟩, ⟨.fifoOverflow, rfl⟩, ⟨.trackFull, rfl⟩, ⟨.cprGlobal, rfl⟩, ⟨.cprLocal, rfl⟩,
    ⟨.cprRelative, rfl⟩, ⟨.cprZone, rfl⟩, ⟨.cprBadLat, rfl⟩, ⟨.cprFar, rfl⟩, ⟨.cprRejRange, rfl⟩, ⟨.cprRejSpeed, rfl⟩,
    ⟨.trackRemoved, rfl⟩]

/-- The map by selectors names each counter at its own place (10_state R46). -/
theorem registerAt_counter (s : State) (c : Cnt) : registerAt s (0x20 + c.index) = some (counterRead s c) := by
  cases c <;> rfl

theorem readReg_counter (s : State) (c : Cnt) : s.readReg (.counter c.index) = counterRead s c :=
  (BitVec.ofNat_toNat ..).symm

/-- The registers below the counters; STATUS is put together, LAST_ACCEPTED and SCAN_POS are widened. -/
theorem registerAt_low (s : State) {n : Nat} (h : n < 0x0C) :
    registerAt s n = (regOf (BitVec.ofNat 8 n)).map s.readReg := by
  interval_cases n
  exacts [rfl, rfl, rfl, rfl, rfl, rfl, congrArg some s.status.view_eq.symm, rfl,
    congrArg some (BitVec.ofNat_toNat ..), congrArg some (BitVec.ofNat_toNat ..), rfl, rfl]

/-- REG_READ's map is the map by selectors. -/
theorem registerAt_eq (sel : BitVec 8) (s : State) : registerAt s sel.toNat = (regOf sel).map s.readReg := by
  by_cases hlow : sel.toNat < 0x0C
  · rw [registerAt_low s hlow, BitVec.ofNat_toNat, BitVec.setWidth_eq]
  · rw [regOf_high (by omega)]
    by_cases hcounter : 0x20 ≤ sel.toNat ∧ sel.toNat < 0x38
    · obtain ⟨c, hc⟩ := Cnt.exists_index ⟨sel.toNat - 0x20, by omega⟩
      have hsel : sel.toNat = 0x20 + c.index := by rw [hc]; simp only; omega
      rw [dif_pos hcounter, ← hc, Option.map_some, readReg_counter, hsel, registerAt_counter]
    · rw [dif_neg hcounter, Option.map_none, registerAt_undefined s (by omega) (by omega)]

/-- Counting adds to one counter modulo 2^32 (10_state R46). -/
theorem Counters.value_addTo_toNat (cs : Counters) (c d : Cnt) (k : Nat) :
    (Counters.value (Counters.addTo cs c k) d).toNat =
      if d = c then ((Counters.value cs d).toNat + k) % 2 ^ 32 else (Counters.value cs d).toNat := by
  rw [Counters.value_addTo]
  by_cases h : d = c
  · rw [if_pos h.symm, if_pos h, BitVec.toNat_add, BitVec.toNat_ofNat, Nat.add_mod_mod]
  · rw [if_neg (Ne.symm h), if_neg h]

/-- Settles O13: the model's register map is the one by selectors, and an increment sets one entry of the counters. -/
theorem regReadAnswersTheRegister : Obligations.RegReadAnswersTheRegister := by
  refine ⟨fun sel s => ?_, fun _ _ => rfl, Counters.value_addTo_toNat⟩
  rw [registerAt_eq]
  change execRegRead sel s = _
  unfold execRegRead
  cases regOf sel <;> rfl

/-! ### A step that runs the sliced frame -/

/-- An attempt on a window that passes runs the sliced frame (41_preamble R184). -/
theorem State.attempt_of_windowPasses {s : State} {w : List (BitVec 17)} (hw : s.dp.win = w)
    (h : windowPasses (s.regs.ctrl.getLsbD 0) w) :
    s.attempt = .run (decodeReceived (frameOfWindow w)) { s with dp := slicedDatapath w } := by
  obtain ⟨hbudget, henergy⟩ := h
  rw [s.attempt_eq w hw, if_neg (Nat.not_lt.2 hbudget), if_neg (by simp [henergy])]

/-- The window holds the magnitudes from J on (10_state R34). -/
theorem windowAt_getElem? (s : State) {i : Nat} (h : i < 240) :
    (windowAt s)[i]? = some ((s.magAt (s.scan.j.toNat + i)).setWidth 17) := by
  rw [windowAt, windowFrom_getElem? _ _ _ h, State.magAt, List.getD_eq_getElem?_getD, List.getElem?_drop,
    ← List.getD_eq_getElem?_getD]

theorem sliceWindow_length {w : List (BitVec 17)} (h : w.length = 240) : (sliceWindow w).length = 112 :=
  sliceFrom_length none 112 _ (by rw [List.length_drop, h])

/-- Bit k is sliced from its own pair and the bit before it (42_bitslicer R200). -/
theorem sliceWindow_getElem? {w : List (BitVec 17)} {k : Nat} {lo hi : BitVec 17} (hlo : w[16 + 2 * k]? = some lo)
    (hhi : w[17 + 2 * k]? = some hi) :
    (sliceWindow w)[k]? =
      some (sliceBit (if k = 0 then none else ((sliceWindow w)[k - 1]?).map Prod.fst) lo hi) := by
  refine sliceFrom_getElem? none (w.drop 16) k lo hi ?_ ?_
  · rw [List.getElem?_drop]; exact hlo
  · rw [List.getElem?_drop, ← hhi]; congr 1; omega

/-- Below the debounce threshold the bit before is copied (42_bitslicer R201). -/
theorem sliceBit_debounced {p : SliceBit} {lo hi : BitVec 17} (h : sampleGap lo hi < 256) :
    sliceBit (some p) lo hi = (p, false) := if_pos h

/-- From the threshold on, and for bit 0, the pair decides (42_bitslicer R201). -/
theorem sliceBit_fresh {prev : Option SliceBit} {lo hi : BitVec 17} (h : prev = none ∨ 256 ≤ sampleGap lo hi) :
    (sliceBit prev lo hi).1 = freshBit lo hi := by
  cases prev with
  | none => rfl
  | some p => rw [sliceBit, if_neg (Nat.not_lt.2 (h.resolve_left nofun))]

/-- Settles O6: the attempt's stages leave the sliced datapath and pass the frame on; the window, the bits and the packed
frame hold what R200 to R202 say, entry by entry. -/
theorem stepRunsTheSlicedFrame : Obligations.StepRunsTheSlicedFrame := by
  refine ⟨?candidate, ?retry, ?window, ?bits⟩
  case candidate =>
    intro s h hscan hpreamble hpass
    rw [step_eq_outcome, h.fetch_candidate hscan hpreamble, State.attempt_of_windowPasses rfl hpass]
    rfl
  case retry =>
    intro s h hscan hpass
    rw [step_eq_outcome, h.fetch_retry hscan, State.attempt_of_windowPasses rfl hpass]
    rfl
  case window => exact fun s => ⟨windowFrom_length _ _, fun i => windowAt_getElem? s⟩
  case bits =>
    rintro w _ hw rfl
    have hlen : ((sliceWindow w).map Prod.fst).length = 112 := by rw [List.length_map, sliceWindow_length hw]
    refine ⟨hlen, fun k hk => ⟨fun lo hi hlo hhi => ?_, packBits_getMsbD _ hlen k hk⟩⟩
    have hbit := sliceWindow_getElem? hlo hhi
    constructor
    · intro hpos hgap
      have hprev : k - 1 < (sliceWindow w).length := by rw [sliceWindow_length hw]; omega
      rw [if_neg (by omega), List.getElem?_eq_getElem hprev, Option.map_some, sliceBit_debounced hgap] at hbit
      rw [List.getElem?_map, hbit, List.getElem?_map, List.getElem?_eq_getElem hprev, Option.map_some, Option.map_some]
    · intro hfresh
      rw [List.getElem?_map, hbit, Option.map_some]
      refine congrArg some (sliceBit_fresh (hfresh.imp_left fun hzero => ?_))
      rw [if_pos hzero]

end Sys2Proof.Machine

/-! The acceptances: what an accepted reply of each address-parity format and an accepted ME message of each type leave
(44_decoder R254 to R273). The effect of an acceptance is said once, by `State.accept_effect`; each format adds its own
payload. -/

namespace Sys2Proof.Machine

/-! ### Address-parity replies -/

/-- A reply whose recovered address is known is accepted (43_checksum R226). -/
theorem State.verifyAp_accepts {s : State} {f : Frame} {p : Payload} {df : BitVec 5} {cap : BitVec 3}
    (hfound : s.cacheFound (f.syndrome.setWidth 32) s.scan.now = true) (hdf : f.dfField = df)
    (hcap : f.capability = cap) :
    ∃ t, Host.Outcome.next (s.verifyAp f p) = (.next t : Result) ∧
      AcceptEffect (s.count .apOk) t (acceptedRecord s df cap f.syndrome .none f p) := by
  subst hdf hcap
  rcases s.verifyAp_cases f p with ⟨_, h⟩ | ⟨hunknown, _⟩
  · exact ⟨_, rfl, h ▸ State.accept_effect _ _⟩
  · rw [hfound] at hunknown; cases hunknown

/-- F⟨1..5⟩ is the field a frame begins with (30_encoding R121). -/
theorem icao_append_left {m n : Nat} (x : BitVec m) (y : BitVec n) : icao (x ++ y) 1 m = x := by
  rw [icao, show m + n + 1 - 1 - m = n by omega]
  exact BitVec.extractLsb'_append_eq_left

/-- A field behind the first one. -/
theorem icao_append_right {m n a w : Nat} (x : BitVec m) (y : BitVec n) (ha : 1 ≤ a) (h : a + w ≤ n + 1) :
    icao (x ++ y) (m + a) w = icao y a w := by
  rw [icao, show m + n + 1 - (m + a) - w = n + 1 - a - w by omega, BitVec.extractLsb'_append_eq_of_add_le (by omega),
    icao]

/-- A field that begins with the first one and ends in the rest. -/
theorem icao_append_across {m n w : Nat} (x : BitVec m) (y : BitVec n) (h : w ≤ n) :
    icao (x ++ y) 1 (m + w) = x ++ icao y 1 w := by
  apply BitVec.eq_of_getLsbD_eq
  intro i hi
  rw [icao, icao, BitVec.getLsbD_extractLsb', BitVec.getLsbD_append, BitVec.getLsbD_append, BitVec.getLsbD_extractLsb',
    decide_eq_true hi, Bool.true_and]
  by_cases hw : i < w
  · rw [if_pos (by omega), if_pos hw, decide_eq_true hw, Bool.true_and]
    congr 1
    omega
  · rw [if_neg (by omega), if_neg hw]
    congr 1
    omega

theorem dfField_shortFrame (df : BitVec 5) (rest : BitVec 51) : Frame.dfField (.short (shortFrame df rest)) = df :=
  icao_append_left df rest

theorem capability_shortFrame (df : BitVec 5) (rest : BitVec 51) :
    Frame.capability (.short (shortFrame df rest)) = icao rest 1 3 :=
  icao_append_right (a := 1) df rest (by decide) (by decide)

theorem dfField_longFrame (df : BitVec 5) (rest : BitVec 107) : Frame.dfField (.long (longFrame df rest)) = df :=
  icao_append_left df rest

theorem capability_longFrame (df : BitVec 5) (rest : BitVec 107) :
    Frame.capability (.long (longFrame df rest)) = icao rest 1 3 :=
  icao_append_right (a := 1) df rest (by decide) (by decide)

/-- The three bits of VS, CC and the spare one are F⟨6..8⟩ (30_encoding R123). -/
theorem capability_airAirShort (f : AirAirShort) : icao f.bits 1 3 = f.vs ++ (f.cc ++ f.spare8) := by
  have hcc : icao (f.cc ++ (f.spare8 ++ (f.sl ++ (f.spare12 ++ (f.ri ++ (f.spare18 ++ (f.ac ++ f.ap))))))) 1 (1 + 1) =
      f.cc ++ f.spare8 := by
    rw [icao_append_across _ _ (by decide), icao_append_left]
  exact (icao_append_across (w := 2) f.vs _ (by decide)).trans (congrArg (fun y => f.vs ++ y) hcc)

theorem capability_airAirLong (f : AirAirLong) : icao f.bits 1 3 = f.vs ++ f.spare7 :=
  (icao_append_across (w := 2) f.vs _ (by decide)).trans (congrArg (fun y => f.vs ++ y) (icao_append_left _ _))

/-- Comm-D frames begin with the bits 11 and the rest of the DF field (30_encoding R134). -/
theorem dfField_commD (f : CommD) : Frame.dfField (.long f.frame) = 3#2 ++ f.low :=
  (icao_append_across (w := 3) 3#2 _ (by decide)).trans (congrArg (fun y => 3#2 ++ y) (icao_append_left _ _))

theorem capability_commD (f : CommD) : Frame.capability (.long f.frame) = f.cap := by
  have h : icao (f.low ++ (f.cap ++ (f.body ++ f.ap))) (3 + 1) 3 = f.cap :=
    (icao_append_right (a := 1) _ _ (by decide) (by decide)).trans (icao_append_left _ _)
  exact (icao_append_right (a := 4) 3#2 _ (by decide) (by decide)).trans h

/-- Settles O29: each format runs `verifyAp` on its own frame, and F⟨1..8⟩ of that frame are its first fields. -/
theorem apRepliesAreAccepted : Obligations.ApRepliesAreAccepted := by
  refine ⟨?df0, ?df4, ?df5, ?df16, ?df20, ?df21, ?df24⟩
  case df0 =>
    rintro f s _ rfl hfound
    exact State.verifyAp_accepts hfound (dfField_shortFrame _ _)
      ((capability_shortFrame _ _).trans (capability_airAirShort f))
  case df4 =>
    rintro f s _ rfl hfound
    exact State.verifyAp_accepts hfound (dfField_shortFrame _ _)
      ((capability_shortFrame _ _).trans (icao_append_left _ _))
  case df5 =>
    rintro f s _ rfl hfound
    exact State.verifyAp_accepts hfound (dfField_shortFrame _ _)
      ((capability_shortFrame _ _).trans (icao_append_left _ _))
  case df16 =>
    rintro f s _ rfl hfound
    exact State.verifyAp_accepts hfound (dfField_longFrame _ _)
      ((capability_longFrame _ _).trans (capability_airAirLong f))
  case df20 =>
    rintro f s _ rfl hfound
    exact State.verifyAp_accepts hfound (dfField_longFrame _ _)
      ((capability_longFrame _ _).trans (icao_append_left _ _))
  case df21 =>
    rintro f s _ rfl hfound
    exact State.verifyAp_accepts hfound (dfField_longFrame _ _)
      ((capability_longFrame _ _).trans (icao_append_left _ _))
  case df24 =>
    rintro f s _ rfl hfound
    exact State.verifyAp_accepts hfound (dfField_commD f) (capability_commD f)

/-! ### ME messages -/

/-- Every ME message is accepted with the payload of its type (44_decoder R250, R262). -/
theorem State.acceptSquitter_accepts (s : State) (h : SquitterHead) (f : BitVec 112) {p q : Payload} (hq : q = p) :
    ∃ t, Host.Outcome.next (s.acceptSquitter h f p) = (.next t : Result) ∧
      AcceptEffect s t (squitterRecord s h f q) := by
  subst hq
  exact ⟨_, rfl, s.accept_effect _⟩

/-- The CHARSET is the text of R264. -/
theorem charset_eq : charsetLow ++ charsetHigh =
    "?ABCDEFGHIJKLMNOPQRSTUVWXYZ????? ???????????????0123456789??????".toList := by
  decide

/-- Character i is that of the i-th six bits from the left (30_encoding R129). -/
theorem flightOf_getElem? (chars : BitVec 48) {i : Nat} (h : i < 8) :
    (flightOf chars)[i]? = (charsetLow ++ charsetHigh)[chars.toNat / 64 ^ (7 - i) % 64]? := by
  have hcode : (chars.extractLsb' (42 - 6 * i) 6).toNat = chars.toNat / 64 ^ (7 - i) % 64 := by
    rw [BitVec.extractLsb'_toNat, Nat.shiftRight_eq_div_pow, show 42 - 6 * i = 6 * (7 - i) by omega, Nat.pow_mul]
  have hin : chars.toNat / 64 ^ (7 - i) % 64 < (charsetLow ++ charsetHigh).length := Nat.mod_lt _ (by decide)
  rw [flightOf, List.getElem?_map, List.getElem?_range h, Option.map_some, charOf, hcode, List.getD_eq_getElem _ _ hin,
    List.getElem?_eq_getElem hin]

/-- Settles O35: the flight is read off the CHARSET, and the payload is `identPayload` of each type code. -/
theorem identificationsAreAccepted : Obligations.IdentificationsAreAccepted := by
  refine ⟨fun chars => ⟨by simp [flightOf], fun i hi => charset_eq ▸ flightOf_getElem? chars hi⟩, fun h m s p hp => ?_⟩
  have hpayload : ∀ tc, p tc = identPayload tc m := hp
  exact ⟨s.acceptSquitter_accepts h _ (hpayload 1), s.acceptSquitter_accepts h _ (hpayload 2),
    s.acceptSquitter_accepts h _ (hpayload 3), s.acceptSquitter_accepts h _ (hpayload 4)⟩

/-- Settles O37: the payload is `baroPayload` of each type code. -/
theorem baroPositionsAreAccepted : Obligations.BaroPositionsAreAccepted := by
  intro h m s p hp
  have hpayload : ∀ tc, p tc = baroPayload tc m := hp
  exact ⟨s.acceptSquitter_accepts h _ (hpayload 9), s.acceptSquitter_accepts h _ (hpayload 10),
    s.acceptSquitter_accepts h _ (hpayload 11), s.acceptSquitter_accepts h _ (hpayload 12),
    s.acceptSquitter_accepts h _ (hpayload 13), s.acceptSquitter_accepts h _ (hpayload 14),
    s.acceptSquitter_accepts h _ (hpayload 15), s.acceptSquitter_accepts h _ (hpayload 16),
    s.acceptSquitter_accepts h _ (hpayload 17), s.acceptSquitter_accepts h _ (hpayload 18)⟩

/-- Settles O38: the payload is `gnssPayload` of each type code. -/
theorem gnssPositionsAreAccepted : Obligations.GnssPositionsAreAccepted := by
  intro h m s p hp
  have hpayload : ∀ tc, p tc = gnssPayload tc m := hp
  exact ⟨s.acceptSquitter_accepts h _ (hpayload 20), s.acceptSquitter_accepts h _ (hpayload 21),
    s.acceptSquitter_accepts h _ (hpayload 22)⟩

/-- Settles O41: the payload is `typePayload`, TC and ST alone. -/
theorem otherMessagesAreAccepted : Obligations.OtherMessagesAreAccepted := by
  intro h m r s p hp
  have hpayload : ∀ tc st, p tc st = typePayload tc st := hp
  exact ⟨s.acceptSquitter_accepts h _ (hpayload 0 _), s.acceptSquitter_accepts h _ (hpayload 23 _),
    s.acceptSquitter_accepts h _ (hpayload 24 _), s.acceptSquitter_accepts h _ (hpayload 25 _),
    s.acceptSquitter_accepts h _ (hpayload 26 _), s.acceptSquitter_accepts h _ (hpayload 27 _),
    s.acceptSquitter_accepts h _ (hpayload 28 _), s.acceptSquitter_accepts h _ (hpayload 29 _),
    s.acceptSquitter_accepts h _ (hpayload 30 _), s.acceptSquitter_accepts h _ (hpayload 31 _),
    s.acceptSquitter_accepts h _ (hpayload 19 0), s.acceptSquitter_accepts h _ (hpayload 19 5),
    s.acceptSquitter_accepts h _ (hpayload 19 6), s.acceptSquitter_accepts h _ (hpayload 19 7)⟩

/-! ### Surface positions and velocities -/

/-- Codes 2 to 123: the speed at the start of a range and a number of its steps are a number of eighths of a knot. -/
theorem eighths_ranges :
    (∀ k < 7, eighths (1 + k) = F64.add 0x3FC0000000000000 (F64.mul (F64.ofNat k) 0x3FC0000000000000)) ∧
    (∀ k < 4, eighths (8 + 2 * k) = F64.add (F64.ofNat 1) (F64.mul (F64.ofNat k) 0x3FD0000000000000)) ∧
    (∀ k < 26, eighths (16 + 4 * k) = F64.add (F64.ofNat 2) (F64.mul (F64.ofNat k) 0x3FE0000000000000)) ∧
    (∀ k < 55, eighths (120 + 8 * k) = F64.add (F64.ofNat 15) (F64.mul (F64.ofNat k) (F64.ofNat 1))) ∧
    (∀ k < 15, eighths (560 + 16 * k) = F64.add (F64.ofNat 70) (F64.mul (F64.ofNat k) (F64.ofNat 2))) ∧
    (∀ k < 15, eighths (800 + 40 * k) = F64.add (F64.ofNat 100) (F64.mul (F64.ofNat k) (F64.ofNat 5))) := by
  decide +kernel

theorem isOne_iff (b : BitVec 1) : isOne b = true ↔ b = 1 := beq_iff_eq

/-- MOVEMENT, by its ranges (44_decoder R266). -/
theorem movementOf_eq (m : BitVec 7) (from0 : Nat → F64 → F64 → F64)
    (hfrom : ∀ first base width, from0 first base width = F64.add base (F64.mul (F64.ofNat (m.toNat - first)) width)) :
    movementOf m =
      if m.toNat = 0 then none
      else if m.toNat = 1 then some 0
      else if m.toNat ≤ 8 then some (from0 2 0x3FC0000000000000 0x3FC0000000000000)
      else if m.toNat ≤ 12 then some (from0 9 (F64.ofNat 1) 0x3FD0000000000000)
      else if m.toNat ≤ 38 then some (from0 13 (F64.ofNat 2) 0x3FE0000000000000)
      else if m.toNat ≤ 93 then some (from0 39 (F64.ofNat 15) (F64.ofNat 1))
      else if m.toNat ≤ 108 then some (from0 94 (F64.ofNat 70) (F64.ofNat 2))
      else if m.toNat ≤ 123 then some (from0 109 (F64.ofNat 100) (F64.ofNat 5))
      else if m.toNat = 124 then some (F64.ofNat 175)
      else none := by
  obtain ⟨h2, h9, h13, h39, h94, h109⟩ := eighths_ranges
  have hzero : eighths 0 = 0 := by decide +kernel
  have htop : eighths 1400 = F64.ofNat 175 := by decide +kernel
  simp only [movementOf, hfrom]
  refine ite_congr rfl (fun _ => rfl) fun h0 => ?_
  refine ite_congr rfl (fun _ => congrArg some hzero) fun h1 => ?_
  refine ite_congr rfl (fun _ => congrArg some (h2 _ (by omega))) fun h8 => ?_
  refine ite_congr rfl (fun _ => congrArg some (h9 _ (by omega))) fun h12 => ?_
  refine ite_congr rfl (fun _ => congrArg some (h13 _ (by omega))) fun h38 => ?_
  refine ite_congr rfl (fun _ => congrArg some (h39 _ (by omega))) fun h93 => ?_
  refine ite_congr rfl (fun _ => congrArg some (h94 _ (by omega))) fun h108 => ?_
  refine ite_congr rfl (fun _ => congrArg some (h109 _ (by omega))) fun h123 => ?_
  exact ite_congr rfl (fun _ => congrArg some htop) fun _ => rfl

/-- Settles O36: the speeds are those of `movementOf_eq`, and the payload is `surfacePayload` of each type code. -/
theorem surfacePositionsAreAccepted : Obligations.SurfacePositionsAreAccepted := by
  refine ⟨movementOf_eq, fun h m s p hp => ?_⟩
  have hpayload : ∀ tc, p tc = surfacePayload tc m := fun tc => by
    simp only [hp, surfacePayload, isOne_iff]
    rfl
  exact ⟨s.acceptSquitter_accepts h _ (hpayload 5), s.acceptSquitter_accepts h _ (hpayload 6),
    s.acceptSquitter_accepts h _ (hpayload 7), s.acceptSquitter_accepts h _ (hpayload 8)⟩

/-- A field that is not 0 stands for one less, with a factor and the sign of its sign bit (44_decoder R270, R272). -/
theorem signed_eq (b : BitVec 1) {w : Nat} {v : BitVec w} (k : Nat) (h : v ≠ 0) :
    signed b ((v.toNat - 1) * k) = (if b = 1 then -1 else 1) * (((v.toNat : Int) - 1) * k) := by
  have hpos : 1 ≤ v.toNat := by
    rw [Nat.one_le_iff_ne_zero]
    exact fun h0 => h (BitVec.eq_of_toNat_eq (by simpa using h0))
  rw [signed, Nat.cast_mul, Nat.cast_sub hpos, Nat.cast_one]
  simp only [isOne_iff]
  split <;> simp

theorem vertRate_eq (svr : BitVec 1) (vr : BitVec 9) :
    vertRate svr vr =
      if vr = 0 then none else some ((if svr = 1 then -1 else 1) * (((vr.toNat : Int) - 1) * 64)) := by
  by_cases h : vr = 0
  · rw [if_pos h]; exact if_pos h
  · rw [if_neg h]; exact (if_neg h).trans (congrArg some (signed_eq svr 64 h))

/-- Both components are known: the velocity, its speed and its track (44_decoder R270). -/
theorem velocityGroundPayload_known (st : BitVec 3) (supersonic : Bool) {m : VelocityGround}
    (h : m.vew ≠ 0 ∧ m.vns ≠ 0) :
    velocityGroundPayload st supersonic m =
      { typePayload 19 st with
        vertRateFpm := vertRate m.svr m.vr
        velEwKt := some (velEw supersonic m)
        velNsKt := some (velNs supersonic m)
        gsKt := some (groundSpeed (velEw supersonic m) (velNs supersonic m))
        trackDeg := some (groundTrack (velEw supersonic m) (velNs supersonic m)) } := if_pos h

/-- A component is unknown: the vertical rate alone (44_decoder R270). -/
theorem velocityGroundPayload_unknown (st : BitVec 3) (supersonic : Bool) {m : VelocityGround}
    (h : ¬(m.vew ≠ 0 ∧ m.vns ≠ 0)) :
    velocityGroundPayload st supersonic m = { typePayload 19 st with vertRateFpm := vertRate m.svr m.vr } := if_neg h

/-- Settles O39: the two components are signed fields, and the payload is the same expression of them. -/
theorem groundVelocitiesAreAccepted : Obligations.GroundVelocitiesAreAccepted := by
  intro h m s p vx vy angle hvx hvy hangle hp
  have hpayload : ∀ st supersonic, p st (speedFactor supersonic) = velocityGroundPayload st supersonic m := by
    intro st supersonic
    rw [hp, ← vertRate_eq]
    by_cases hm : m.vew ≠ 0 ∧ m.vns ≠ 0
    · have hx : vx (speedFactor supersonic) = velEw supersonic m := by rw [hvx, velEw, signed_eq _ _ hm.1]
      have hy : vy (speedFactor supersonic) = velNs supersonic m := by rw [hvy, velNs, signed_eq _ _ hm.2]
      rw [velocityGroundPayload_known st supersonic hm, if_pos hm, hangle, hx, hy]
      rfl
    · rw [velocityGroundPayload_unknown st supersonic hm, if_neg hm]
      rfl
  exact ⟨s.acceptSquitter_accepts h _ (hpayload 1 false), s.acceptSquitter_accepts h _ (hpayload 2 true)⟩

/-- Settles O40: the payload is `velocityAirPayload` of each subtype, with its speed factor. -/
theorem airspeedsAreAccepted : Obligations.AirspeedsAreAccepted := by
  intro h m s p hp
  have hpayload : ∀ st supersonic, p st (speedFactor supersonic) = velocityAirPayload st supersonic m := by
    intro st supersonic
    simp only [hp, velocityAirPayload, vertRate_eq, isOne_iff]
    rfl
  exact ⟨s.acceptSquitter_accepts h _ (hpayload 3 false), s.acceptSquitter_accepts h _ (hpayload 4 true)⟩

end Sys2Proof.Machine

/-! The memories (20_memory): a command's turn runs the decoded command (R88, R90), every step keeps sample RAM, the ICAO
cache and the magnitudes canonical and in range (R80, R81), and the pipeline reads magnitudes, never sample RAM (R94). -/

namespace Sys2Proof.Machine

/-! ### The turn of the host -/

theorem State.fetch_command {s : State} {w : U32} {a b : U64} {rest : List Turn}
    (h : s.schedule = .command w a b :: rest) : s.fetch = .run (decodeCommand w a b) { s with schedule := rest } := by
  rw [State.fetch, h]

/-- Settles O5: a command's turn fetches what its words decode to. -/
theorem stepRunsTheCommand : Obligations.StepRunsTheCommand := by
  intro s w a b rest i hturn hdecode
  obtain rfl : decodeCommand w a b = i := Except.ok.inj hdecode
  rw [step_eq_outcome, State.fetch_command hturn, Fetched.outcome]

/-! ### Magnitudes (40_magnitude R170, R171) -/

/-- No round of the integer square root makes a result whose square is above the number. -/
theorem isqrtFrom_sq_le {n r : Nat} (bits : Nat) (h : r * r ≤ n) : isqrtFrom n bits r * isqrtFrom n bits r ≤ n := by
  induction bits generalizing r with
  | zero => exact h
  | succ b ih =>
    rw [isqrtFrom]
    split
    · next hnext => exact ih hnext
    · exact ih h

/-- Rounding up gives at most the next integer after the floor of the root. -/
theorem roundSqrt_le {n m : Nat} (h : n < m * m) : roundSqrt n ≤ m := by
  have hroot : isqrt 17 n * isqrt 17 n ≤ n := isqrtFrom_sq_le 17 (Nat.zero_le n)
  have hlt : isqrt 17 n < m := Nat.mul_self_lt_mul_self_iff.1 (Nat.lt_of_le_of_lt hroot h)
  rw [roundSqrt]
  split <;> omega

theorem centred_le (x : Byte) : centred x ≤ 128 := by
  rw [centred]
  omega

/-- The largest magnitude is that of the corner (255, 255). -/
theorem magOf_toNat_le (i q : Byte) : (magOf i q).toNat ≤ 65167 := by
  have hi : centred i * centred i ≤ 128 * 128 := Nat.mul_le_mul (centred_le i) (centred_le i)
  have hq : centred q * centred q ≤ 128 * 128 := Nat.mul_le_mul (centred_le q) (centred_le q)
  rw [magOf, magLut, BitVec.toNat_ofNat]
  exact Nat.le_trans (Nat.mod_le _ _) (roundSqrt_le (by omega))

/-- What a PROCESS computes: one magnitude for each sample, none above the largest. -/
theorem magnitudes_ok {m : Memory} {n : Nat} {ms : List (BitVec 16)} (h : magnitudes m n 0 = .ok ms) :
    ms.length = n ∧ ∀ x ∈ ms, x.toNat ≤ 65167 := by
  rcases magnitudes_cases m n 0 with ⟨ms', hok, hlength, hentry⟩ | ⟨_, herror, _⟩
  · obtain rfl : ms = ms' := Except.ok.inj (h.symm.trans hok)
    refine ⟨hlength, fun x hx => ?_⟩
    obtain ⟨k, hk, rfl⟩ := List.mem_iff_getElem.1 hx
    obtain ⟨i, q, _, _, hmag⟩ := hentry k (hlength ▸ hk)
    rw [List.getElem?_eq_getElem hk] at hmag
    rw [Option.some.inj hmag]
    exact magOf_toNat_le i q
  · rw [h] at herror; cases herror

/-! ### The magnitude memory without the zeros at its end -/

theorem trimMag_cons (x : BitVec 16) (l : List (BitVec 16)) :
    trimMag (x :: l) = if x = 0#16 ∧ trimMag l = [] then [] else x :: trimMag l := rfl

theorem trimMag_sublist (l : List (BitVec 16)) : (trimMag l).Sublist l := by
  induction l with
  | nil => exact .slnil
  | cons x xs ih =>
    rw [trimMag_cons]
    split
    · exact List.nil_sublist _
    · exact ih.cons_cons x

theorem trimMag_getLast? (l : List (BitVec 16)) : (trimMag l).getLast? ≠ some 0 := by
  induction l with
  | nil => simp [trimMag]
  | cons x xs ih =>
    rw [trimMag_cons]
    split
    · simp
    · next hkept =>
      match htail : trimMag xs with
      | [] => simpa [htail] using hkept
      | y :: ys => rwa [List.getLast?_cons_cons, ← htail]

/-! ### The canonical memories -/

/-- MemoriesOk reads the three memories alone. -/
theorem MemoriesOk.congr {s t : State} (hs : MemoriesOk s) (hram : t.ram = s.ram) (hcache : t.cache = s.cache)
    (hmag : t.mag = s.mag) : MemoriesOk t where
  ram := hram ▸ hs.ram
  cacheOrder := hcache ▸ hs.cacheOrder
  cacheSlots := hcache ▸ hs.cacheSlots
  magFits := hmag ▸ hs.magFits
  magTrimmed := hmag ▸ hs.magTrimmed
  magRange := hmag ▸ hs.magRange

theorem MemoriesOk.writeSample {s : State} {a : Nat} (v : Byte) (hs : MemoriesOk s) (ha : a < Config.SAMPLE_RAM_BYTES) :
    MemoriesOk (s.writeSample a v) :=
  { hs with ram := State.writeSample_ram_wf v hs.ram ha }

theorem MemoriesOk.writeMags {s : State} {ms : List (BitVec 16)} (hs : MemoriesOk s) (hfits : ms.length ≤ 131311)
    (hrange : ∀ x ∈ ms, x.toNat ≤ 65167) : MemoriesOk (s.writeMags ms) :=
  { hs with
    magFits := by
      have htrim := (trimMag_sublist (ms ++ s.mag.drop ms.length)).length_le
      have hold := hs.magFits
      rw [List.length_append, List.length_drop] at htrim
      rw [State.writeMags_mag]
      omega
    magTrimmed := trimMag_getLast? _
    magRange := fun x hx =>
      match List.mem_append.1 ((trimMag_sublist _).mem hx) with
      | .inl hnew => hrange x hnew
      | .inr hold => hs.magRange x (List.mem_of_mem_drop hold) }

/-- CACHE_INSERT_INT lists an entry at its own hash, and the empty entry nowhere (43_checksum R230, R233). -/
theorem MemoriesOk.cacheInsert {s : State} (a : U32) (t : U64) (hs : MemoriesOk s) : MemoriesOk (s.cacheInsert a t) := by
  by_cases hempty : a = 0#32 ∧ t = 0#64
  · have hcache : (s.cacheInsert a t).cache = Sparse.drop s.cache (cacheHash a) := if_pos hempty
    exact
      { hs with
        cacheOrder := hcache ▸ Sparse.drop_wf _ hs.cacheOrder
        cacheSlots := fun e he => hs.cacheSlots e (List.mem_of_mem_filter (hcache ▸ he)) }
  · have hcache : (s.cacheInsert a t).cache = Sparse.put s.cache (cacheHash a) ⟨a, t⟩ := if_neg hempty
    refine
      { hs with
        cacheOrder := hcache ▸ Sparse.put_wf _ _ hs.cacheOrder
        cacheSlots := fun e he => ?_ }
    rcases Sparse.mem_put (hcache ▸ he) with rfl | hold
    · exact ⟨rfl, fun h => hempty (by injection h with ha ht; exact ⟨ha, ht⟩)⟩
    · exact hs.cacheSlots e hold

/-- The checksum stage writes the cache at most through CACHE_INSERT_INT. -/
theorem Prepared.memoriesOk {s u : State} (hu : Prepared s u) (hs : MemoriesOk s) : MemoriesOk u := by
  rcases hu.cache with hcache | ⟨a, hcache⟩
  · exact hs.congr hu.ram hcache hu.mag
  · exact (hs.cacheInsert a s.scan.now).congr hu.ram hcache hu.mag

theorem CommandCase.memoriesOk {s t : State} (h : CommandCase s t) (hs : MemoriesOk s) : MemoriesOk t := by
  cases h with
  | resets =>
    exact
      { ram := hs.ram
        cacheOrder := .nil
        cacheSlots := by simp
        magFits := by simp
        magTrimmed := by simp
        magRange := by simp }
  | writesSample a v _ hinRam => exact (hs.writeSample v hinRam).congr rfl rfl rfl
  | starts ms n _ _ hfits _ hread =>
    obtain ⟨hlength, hrange⟩ := magnitudes_ok hread
    exact (hs.writeMags (by rw [Config.SAMPLE_RAM_BYTES] at hfits; omega) hrange).congr rfl rfl rfl
  | inserts a t => exact (hs.cacheInsert _ t).congr rfl rfl rfl
  | _ => exact hs.congr rfl rfl rfl

theorem PipelineCase.memoriesOk {s t : State} (h : PipelineCase s t) (hs : MemoriesOk s) : MemoriesOk t := by
  cases h with
  | idle => exact hs
  | cancels => exact hs.congr rfl rfl rfl
  | skips => exact hs.congr (by simp) (by simp) (by simp)
  | rejects u c _ _ hu => exact hs.congr (by simp [hu.ram]) (by simp [hu.cache]) (by simp [hu.mag])
  | accepts u v m _ _ hu hv =>
    exact (hv.memoriesOk (hs.congr hu.ram hu.cache hu.mag)).congr (by simp) (by simp) (by simp)

/-- Settles O55: sample RAM is written inside its address space, the cache at the hash of the address, and the
magnitudes by a PROCESS, which trims them. -/
theorem memoriesStayCanonical : Obligations.MemoriesStayCanonical :=
  step_keeps (fun _ hs => hs.congr rfl rfl rfl) (fun _ _ hs h => h.memoriesOk hs) (fun _ _ hs h => h.memoriesOk hs)

/-! ### Another sample RAM

Each operation of the pipeline, in the order of the model, commutes with exchanging sample RAM. -/

/-- s with sample RAM r. -/
def State.withRam (s : State) (r : Memory) : State := { s with ram := r }

/-- An outcome with sample RAM r in its state, if it has one. -/
def Result.withRam (r : Memory) : Result → Result
  | .next s => .next (s.withRam r)
  | .fault e => .fault e
  | .refused e => .refused e

@[simp] theorem Result.withRam_next (r : Memory) (s : State) : Result.withRam r (.next s) = .next (s.withRam r) := rfl

@[simp] theorem State.withRam_regs (s : State) (r : Memory) : (s.withRam r).regs = s.regs := rfl
@[simp] theorem State.withRam_status (s : State) (r : Memory) : (s.withRam r).status = s.status := rfl
@[simp] theorem State.withRam_scan (s : State) (r : Memory) : (s.withRam r).scan = s.scan := rfl
@[simp] theorem State.withRam_dp (s : State) (r : Memory) : (s.withRam r).dp = s.dp := rfl
@[simp] theorem State.withRam_tracks (s : State) (r : Memory) : (s.withRam r).tracks = s.tracks := rfl
@[simp] theorem State.withRam_schedule (s : State) (r : Memory) : (s.withRam r).schedule = s.schedule := rfl
@[simp] theorem State.withRam_magBehind (s : State) (r : Memory) : (s.withRam r).magBehind = s.magBehind := rfl
@[simp] theorem State.withRam_cprEnv (s : State) (r : Memory) : (s.withRam r).cprEnv = s.cprEnv := rfl

/-- The turn is taken off the schedule with either sample RAM. -/
theorem State.takeTurn_withRam (s : State) (r : Memory) :
    { s.withRam r with schedule := s.schedule.tail } = { s with schedule := s.schedule.tail }.withRam r := rfl

@[simp] theorem State.count_withRam (s : State) (r : Memory) (c : Cnt) :
    (s.withRam r).count c = (s.count c).withRam r := rfl

@[simp] theorem State.moveTo_withRam (s : State) (r : Memory) (j : U32) (p : ScanState) :
    (s.withRam r).moveTo j p = (s.moveTo j p).withRam r := rfl

@[simp] theorem State.advancePast_withRam (s : State) (r : Memory) (f : Frame) :
    (s.withRam r).advancePast f = (s.advancePast f).withRam r := rfl

@[simp] theorem State.countAll_withRam (s : State) (r : Memory) (cs : List Cnt) :
    (s.withRam r).countAll cs = (s.countAll cs).withRam r := by
  induction cs generalizing s with
  | nil => rfl
  | cons c cs ih => simp [ih]

@[simp] theorem State.fifoPush_withRam (s : State) (r : Memory) (m : Message) :
    (s.withRam r).fifoPush m = (s.fifoPush m).withRam r := by
  rw [State.fifoPush, State.fifoPush, apply_ite (State.withRam · r)]
  rfl

@[simp] theorem State.finish_withRam (s : State) (r : Memory) : (s.withRam r).finish = s.finish.withRam r := by
  rw [State.finish, State.finish, apply_ite (State.withRam · r)]
  rfl

/-- Whether the attempt is retried reads PST and CTRL alone. -/
@[simp] theorem State.afterReject_withRam (s : State) (r : Memory) :
    (s.withRam r).afterReject = s.afterReject.withRam r := by
  rw [State.afterReject, State.afterReject, ← State.finish_withRam, apply_ite (State.withRam · r)]
  rfl

@[simp] theorem State.reject_withRam (s : State) (r : Memory) (c : Cnt) :
    (s.withRam r).reject c = (s.reject c).withRam r := by
  simp [State.reject]

@[simp] theorem State.putTrack_withRam (s : State) (r : Memory) (i : Nat) (u : Track × List Cnt) :
    (s.withRam r).putTrack i u = (s.putTrack i u).withRam r :=
  State.countAll_withRam { s with tracks := Sparse.put s.tracks i u.1 } r u.2

@[simp] theorem State.countAccepted_withRam (s : State) (r : Memory) :
    (s.withRam r).countAccepted = s.countAccepted.withRam r := by
  rw [State.countAccepted, State.countAccepted, apply_ite (State.withRam · r)]
  rfl

/-- TRACK_UPDATE reads the track table, the registers and NOW. -/
@[simp] theorem State.trackUpdate_withRam (s : State) (r : Memory) (m : Message) :
    (s.withRam r).trackUpdate m = (s.trackUpdate m).withRam r := by
  rw [State.trackUpdate, State.trackUpdate, State.withRam_tracks, State.withRam_cprEnv, State.withRam_scan]
  split
  · exact State.putTrack_withRam ..
  · split
    · exact State.putTrack_withRam ..
    · rfl

@[simp] theorem State.accept_withRam (s : State) (r : Memory) (m : Message) :
    (s.withRam r).accept m = (s.accept m).withRam r := by
  simp [State.accept]

@[simp] theorem State.cacheInsert_withRam (s : State) (r : Memory) (a : U32) (t : U64) :
    (s.withRam r).cacheInsert a t = (s.cacheInsert a t).withRam r := rfl

@[simp] theorem State.setShortFrame_withRam (s : State) (r : Memory) (f : BitVec 56) :
    (s.withRam r).setShortFrame f = (s.setShortFrame f).withRam r := rfl

@[simp] theorem State.setLongFrame_withRam (s : State) (r : Memory) (f : BitVec 112) :
    (s.withRam r).setLongFrame f = (s.setLongFrame f).withRam r := rfl

/-- The recovered address is looked up in the cache. -/
@[simp] theorem State.verifyAp_withRam (s : State) (r : Memory) (f : Frame) (p : Payload) :
    (s.withRam r).verifyAp f p = (s.verifyAp f p).withRam r := by
  rw [State.verifyAp, State.verifyAp, apply_ite (State.withRam · r), ← State.accept_withRam, ← State.reject_withRam]
  rfl

@[simp] theorem State.acceptAllCall_withRam (s : State) (r : Memory) (fix : BitFix) (f : BitVec 56) :
    (s.withRam r).acceptAllCall fix f = (s.acceptAllCall fix f).withRam r :=
  State.accept_withRam ..

theorem execDf11AllCall_withRam (f : AllCall) (s : State) (r : Memory) :
    execDf11AllCall f (s.withRam r) = Result.withRam r (execDf11AllCall f s) := by
  rw [execDf11AllCall, execDf11AllCall]
  split
  · simp
  · split <;> simp

/-! An ME message's frame and payload come from its field alone, so that it is accepted as the same message whatever the
state (44_decoder R250). -/

theorem execSquitter19_sameMessage (h : SquitterHead) (f : BitVec 112) :
    ∃ g p, ∀ s, execSquitter19 h f s = .next (s.acceptSquitter h g p) := by
  unfold execSquitter19
  split <;> exact ⟨_, _, fun _ => rfl⟩

theorem execSquitter_sameMessage (h : SquitterHead) (f : BitVec 112) :
    ∃ g p, ∀ s, execSquitter h f s = .next (s.acceptSquitter h g p) := by
  unfold execSquitter
  split
  case h_20 => exact execSquitter19_sameMessage h f
  all_goals exact ⟨_, _, fun _ => rfl⟩

@[simp] theorem decodeSquitter_withRam (s : State) (r : Memory) (fix : BitFix) (f : BitVec 112) :
    decodeSquitter (s.withRam r) fix f = Result.withRam r (decodeSquitter s fix f) := by
  obtain ⟨g, p, hrun⟩ := execSquitter_sameMessage (SquitterHead.ofFrame fix f) f
  rw [decodeSquitter, decodeSquitter, hrun, hrun]
  exact congrArg Host.Outcome.next (State.accept_withRam ..)

theorem execDf17ExtSquitter_withRam (f : ExtSquitter) (s : State) (r : Memory) :
    execDf17ExtSquitter f (s.withRam r) = Result.withRam r (execDf17ExtSquitter f s) := by
  have hfix2 : fix2IfAggressive (s.withRam r) = fix2IfAggressive s := rfl
  rw [execDf17ExtSquitter, execDf17ExtSquitter, hfix2]
  split
  · simp
  · split
    · simp
    · split <;> simp

theorem exec_decodeReceived_withRam (f : BitVec 112) (s : State) (r : Memory) :
    exec (decodeReceived f) (s.withRam r) = Result.withRam r (exec (decodeReceived f) s) := by
  unfold decodeReceived
  split
  case h_1 | h_5 | h_6 | h_17 | h_21 | h_22 | h_25 => exact congrArg Host.Outcome.next (State.verifyAp_withRam ..)
  case h_12 => exact execDf11AllCall_withRam ..
  case h_18 => exact execDf17ExtSquitter_withRam ..
  all_goals exact congrArg Host.Outcome.next (State.reject_withRam ..)

@[simp] theorem State.loadWindow_withRam (s : State) (r : Memory) :
    (s.withRam r).loadWindow = s.loadWindow.withRam r := rfl

theorem State.correctWindow_withRam (s : State) (r : Memory) :
    (s.withRam r).correctWindow = s.correctWindow.withRam r := by
  rw [State.correctWindow_eq, State.correctWindow_eq]
  rfl

@[simp] theorem State.candidateFound_withRam (s : State) (r : Memory) :
    (s.withRam r).candidateFound = s.candidateFound.withRam r := rfl

@[simp] theorem State.cancelRun_withRam (s : State) (r : Memory) :
    (s.withRam r).cancelRun = s.cancelRun.withRam r := rfl

@[simp] theorem Fetched.outcome_done (t : State) : (Fetched.done t).outcome = .next t := rfl

theorem State.setDatapath_withRam (s : State) (r : Memory) (d : Datapath) :
    { s.withRam r with dp := d } = { s with dp := d }.withRam r := rfl

/-- The attempt reads the window register file. -/
@[simp] theorem State.attempt_withRam (s : State) (r : Memory) :
    (s.withRam r).attempt.outcome = Result.withRam r s.attempt.outcome := by
  rw [s.attempt_eq _ rfl, (s.withRam r).attempt_eq _ rfl, State.setDatapath_withRam, State.setDatapath_withRam,
    State.withRam_dp, State.withRam_regs]
  generalize (if s.regs.ctrl.getLsbD 0 = true then 2 else 0) = limit
  split
  · exact congrArg Host.Outcome.next (State.reject_withRam ..)
  · split
    · exact congrArg Host.Outcome.next (State.reject_withRam ..)
    · exact exec_decodeReceived_withRam ..

/-- The scan step reads magnitudes (41_preamble R184). -/
@[simp] theorem State.scanStep_withRam (s : State) (r : Memory) :
    (s.withRam r).scanStep.outcome = Result.withRam r s.scanStep.outcome := by
  rw [State.scanStep, State.scanStep, State.withRam_status, State.withRam_scan, State.withRam_magBehind]
  split
  · simp
  · split
    · split <;> simp
    · simp only [State.loadWindow_withRam, State.count_withRam, State.correctWindow_withRam, State.attempt_withRam]

theorem State.pipelineTurn_withRam (s : State) (r : Memory) :
    (s.withRam r).pipelineTurn.outcome = Result.withRam r s.pipelineTurn.outcome := by
  rw [State.pipelineTurn, State.pipelineTurn, State.withRam_status]
  split
  · exact s.scanStep_withRam r
  · rfl

/-- The pipeline's step commutes with exchanging sample RAM, whatever it answers. -/
theorem step_withRam {s : State} (h : PipelinesTurn s) (r : Memory) :
    step (s.withRam r) = Result.withRam r (step s) := by
  rw [step_eq_outcome, step_eq_outcome, State.fetch_pipelinesTurn h, State.fetch_pipelinesTurn (s := s.withRam r) h,
    State.withRam_schedule, State.takeTurn_withRam, State.pipelineTurn_withRam]

/-- Settles O52: each operation of the pipeline commutes with exchanging sample RAM. -/
theorem pipelineIgnoresSampleRam : Obligations.PipelineIgnoresSampleRam := by
  intro s t r hturn hstep
  have hcommutes := step_withRam hturn r
  rwa [hstep] at hcommutes

end Sys2Proof.Machine

/-! The layouts of the frames and of the ME messages (30_encoding R121 to R134), each said by two facts: the bits of the
fields read from a frame are the frame's own, and the bits determine the fields. That reading the fields of an encoded
frame gives them back follows from the two. -/

namespace Sys2Proof

open Machine

/-! ### Fields -/

/-- A frame put together from two parts determines both. -/
theorem append_eq_append_iff {m n : Nat} {x x' : BitVec m} {y y' : BitVec n} :
    x ++ y = x' ++ y' ↔ x = x' ∧ y = y' := by
  refine ⟨fun h => ⟨?_, ?_⟩, fun ⟨hx, hy⟩ => hx ▸ hy ▸ rfl⟩
  · rw [← icao_append_left x y, h, icao_append_left]
  · have hlow := congrArg (BitVec.extractLsb' 0 n) h
    rwa [BitVec.extractLsb'_append_eq_right, BitVec.extractLsb'_append_eq_right] at hlow

/-- Two fields that touch are one field. -/
theorem icao_append_icao {n : Nat} (f : BitVec n) {a v b w : Nat} (hb : b = a + v) (h : b + w ≤ n + 1) :
    icao f a v ++ icao f b w = icao f a (v + w) := by
  subst hb
  rw [icao, icao, BitVec.extractLsb'_append_extractLsb'_eq_extractLsb' (by omega), icao]
  congr 1
  omega

/-- The field of all the bits. -/
theorem icao_self {n : Nat} (f : BitVec n) : icao f 1 n = f := by
  rw [icao, show n + 1 - 1 - n = 0 by omega, BitVec.extractLsb'_eq_self]

/-- A field of a field. -/
theorem icao_icao {n : Nat} (f : BitVec n) {p m a w : Nat} (ha : 1 ≤ a) (hm : a + w ≤ m + 1)
    (hn : p + m ≤ n + 1) : icao (icao f p m) a w = icao f (p + a - 1) w := by
  apply BitVec.eq_of_getLsbD_eq
  intro i hi
  simp only [icao, BitVec.getLsbD_extractLsb']
  rw [decide_eq_true hi, decide_eq_true (by omega : m + 1 - a - w + i < m), Bool.true_and, Bool.true_and, Bool.true_and]
  congr 1
  omega

/-! ### 56-bit frames -/

@[simp] theorem icao_shortFrame_df (df : BitVec 5) (rest : BitVec 51) : icao (shortFrame df rest) 1 5 = df :=
  icao_append_left df rest

@[simp] theorem icao_shortFrame_rest (df : BitVec 5) (rest : BitVec 51) : icao (shortFrame df rest) 6 51 = rest :=
  (icao_append_right (a := 1) df rest (by decide) (by decide)).trans (icao_self rest)

/-- A 56-bit frame is its DF field and its 51 other bits (30_encoding R121). -/
theorem shortFrame_eq_of_df {f : BitVec 56} {df : BitVec 5} {rest : BitVec 51} (hdf : (icao f 1 5).toNat = df.toNat)
    (hrest : rest = icao f 6 51) : shortFrame df rest = f := by
  rw [← BitVec.eq_of_toNat_eq hdf, hrest, shortFrame, icao_append_icao f (by decide) (by decide)]
  exact icao_self f

@[simp] theorem AirAirShort.bits_ofFrame (f : BitVec 56) : (AirAirShort.ofFrame f).bits = icao f 6 51 := by
  simp (disch := omega) only [AirAirShort.bits, AirAirShort.ofFrame, icao_append_icao]

theorem AirAirShort.bits_injective {f g : AirAirShort} (h : f.bits = g.bits) : f = g := by
  cases f
  cases g
  simpa only [append_eq_append_iff, AirAirShort.mk.injEq] using append_eq_append_iff.1 h

@[simp] theorem AirAirShort.ofFrame_shortFrame (df : BitVec 5) (f : AirAirShort) :
    AirAirShort.ofFrame (shortFrame df f.bits) = f :=
  AirAirShort.bits_injective ((AirAirShort.bits_ofFrame _).trans (icao_shortFrame_rest df f.bits))

@[simp] theorem SurvAlt.bits_ofFrame (f : BitVec 56) : (SurvAlt.ofFrame f).bits = icao f 6 51 := by
  simp (disch := omega) only [SurvAlt.bits, SurvAlt.ofFrame, icao_append_icao]

theorem SurvAlt.bits_injective {f g : SurvAlt} (h : f.bits = g.bits) : f = g := by
  cases f
  cases g
  simpa only [append_eq_append_iff, SurvAlt.mk.injEq] using append_eq_append_iff.1 h

@[simp] theorem SurvAlt.ofFrame_shortFrame (df : BitVec 5) (f : SurvAlt) :
    SurvAlt.ofFrame (shortFrame df f.bits) = f :=
  SurvAlt.bits_injective ((SurvAlt.bits_ofFrame _).trans (icao_shortFrame_rest df f.bits))

@[simp] theorem SurvId.bits_ofFrame (f : BitVec 56) : (SurvId.ofFrame f).bits = icao f 6 51 := by
  simp (disch := omega) only [SurvId.bits, SurvId.ofFrame, icao_append_icao]

theorem SurvId.bits_injective {f g : SurvId} (h : f.bits = g.bits) : f = g := by
  cases f
  cases g
  simpa only [append_eq_append_iff, SurvId.mk.injEq] using append_eq_append_iff.1 h

@[simp] theorem SurvId.ofFrame_shortFrame (df : BitVec 5) (f : SurvId) :
    SurvId.ofFrame (shortFrame df f.bits) = f :=
  SurvId.bits_injective ((SurvId.bits_ofFrame _).trans (icao_shortFrame_rest df f.bits))

@[simp] theorem AllCall.bits_ofFrame (f : BitVec 56) : (AllCall.ofFrame f).bits = icao f 6 51 := by
  simp (disch := omega) only [AllCall.bits, AllCall.ofFrame, icao_append_icao]

theorem AllCall.bits_injective {f g : AllCall} (h : f.bits = g.bits) : f = g := by
  cases f
  cases g
  simpa only [append_eq_append_iff, AllCall.mk.injEq] using append_eq_append_iff.1 h

@[simp] theorem AllCall.ofFrame_shortFrame (df : BitVec 5) (f : AllCall) :
    AllCall.ofFrame (shortFrame df f.bits) = f :=
  AllCall.bits_injective ((AllCall.bits_ofFrame _).trans (icao_shortFrame_rest df f.bits))

/-! ### 112-bit frames -/

@[simp] theorem icao_longFrame_df (df : BitVec 5) (rest : BitVec 107) : icao (longFrame df rest) 1 5 = df :=
  icao_append_left df rest

@[simp] theorem icao_longFrame_rest (df : BitVec 5) (rest : BitVec 107) : icao (longFrame df rest) 6 107 = rest :=
  (icao_append_right (a := 1) df rest (by decide) (by decide)).trans (icao_self rest)

/-- A 112-bit frame is its DF field and its 107 other bits (30_encoding R121). -/
theorem longFrame_eq_of_df {f : BitVec 112} {df : BitVec 5} {rest : BitVec 107} (hdf : (icao f 1 5).toNat = df.toNat)
    (hrest : rest = icao f 6 107) : longFrame df rest = f := by
  rw [← BitVec.eq_of_toNat_eq hdf, hrest, longFrame, icao_append_icao f (by decide) (by decide)]
  exact icao_self f

@[simp] theorem AirAirLong.bits_ofFrame (f : BitVec 112) : (AirAirLong.ofFrame f).bits = icao f 6 107 := by
  simp (disch := omega) only [AirAirLong.bits, AirAirLong.ofFrame, icao_append_icao]

theorem AirAirLong.bits_injective {f g : AirAirLong} (h : f.bits = g.bits) : f = g := by
  cases f
  cases g
  simpa only [append_eq_append_iff, AirAirLong.mk.injEq] using append_eq_append_iff.1 h

@[simp] theorem AirAirLong.ofFrame_longFrame (df : BitVec 5) (f : AirAirLong) :
    AirAirLong.ofFrame (longFrame df f.bits) = f :=
  AirAirLong.bits_injective ((AirAirLong.bits_ofFrame _).trans (icao_longFrame_rest df f.bits))

@[simp] theorem CommBAlt.bits_ofFrame (f : BitVec 112) : (CommBAlt.ofFrame f).bits = icao f 6 107 := by
  simp (disch := omega) only [CommBAlt.bits, CommBAlt.ofFrame, icao_append_icao]

theorem CommBAlt.bits_injective {f g : CommBAlt} (h : f.bits = g.bits) : f = g := by
  cases f
  cases g
  simpa only [append_eq_append_iff, CommBAlt.mk.injEq] using append_eq_append_iff.1 h

@[simp] theorem CommBAlt.ofFrame_longFrame (df : BitVec 5) (f : CommBAlt) :
    CommBAlt.ofFrame (longFrame df f.bits) = f :=
  CommBAlt.bits_injective ((CommBAlt.bits_ofFrame _).trans (icao_longFrame_rest df f.bits))

@[simp] theorem CommBId.bits_ofFrame (f : BitVec 112) : (CommBId.ofFrame f).bits = icao f 6 107 := by
  simp (disch := omega) only [CommBId.bits, CommBId.ofFrame, icao_append_icao]

theorem CommBId.bits_injective {f g : CommBId} (h : f.bits = g.bits) : f = g := by
  cases f
  cases g
  simpa only [append_eq_append_iff, CommBId.mk.injEq] using append_eq_append_iff.1 h

@[simp] theorem CommBId.ofFrame_longFrame (df : BitVec 5) (f : CommBId) :
    CommBId.ofFrame (longFrame df f.bits) = f :=
  CommBId.bits_injective ((CommBId.bits_ofFrame _).trans (icao_longFrame_rest df f.bits))

@[simp] theorem ExtSquitter.bits_ofFrame (f : BitVec 112) : (ExtSquitter.ofFrame f).bits = icao f 6 107 := by
  simp (disch := omega) only [ExtSquitter.bits, ExtSquitter.ofFrame, icao_append_icao]

theorem ExtSquitter.bits_injective {f g : ExtSquitter} (h : f.bits = g.bits) : f = g := by
  cases f
  cases g
  simpa only [append_eq_append_iff, ExtSquitter.mk.injEq] using append_eq_append_iff.1 h

@[simp] theorem ExtSquitter.ofFrame_longFrame (df : BitVec 5) (f : ExtSquitter) :
    ExtSquitter.ofFrame (longFrame df f.bits) = f :=
  ExtSquitter.bits_injective ((ExtSquitter.bits_ofFrame _).trans (icao_longFrame_rest df f.bits))

/-- DF 24 to 31 are the frames that begin with 11 (30_encoding R134). -/
theorem CommD.frame_ofFrame {f : BitVec 112} (h : 24 ≤ (icao f 1 5).toNat) : (CommD.ofFrame f).frame = f := by
  have hbits : icao f 1 2 = 3#2 := by
    apply BitVec.eq_of_toNat_eq
    have := f.isLt
    rw [icao_toNat] at h ⊢
    simp only [BitVec.toNat_ofNat]
    omega
  simp (disch := omega) only [CommD.frame, CommD.ofFrame, ← hbits, icao_append_icao]
  exact icao_self f

theorem CommD.frame_injective {f g : CommD} (h : f.frame = g.frame) : f = g := by
  cases f
  cases g
  simpa only [append_eq_append_iff, true_and, CommD.mk.injEq] using append_eq_append_iff.1 h

theorem CommD.df_frame (f : CommD) : icao f.frame 1 5 = 3#2 ++ f.low := dfField_commD f

theorem CommD.le_df_frame (f : CommD) : 24 ≤ (icao f.frame 1 5).toNat := by
  rw [f.df_frame, toNat_append_add, BitVec.toNat_ofNat]
  omega

@[simp] theorem CommD.ofFrame_frame (f : CommD) : CommD.ofFrame f.frame = f :=
  CommD.frame_injective (CommD.frame_ofFrame f.le_df_frame)

/-! ### Verified squitters -/

/-- A verified DF17 frame is its head, its TC and the 51 other bits of its ME field (30_encoding R127, R128). -/
theorem SquitterHead.frame_eq_of_tc {fix : BitFix} {f : BitVec 112} {tc : BitVec 5} {rest : BitVec 51}
    (htc : (icao f 33 5).toNat = tc.toNat) (hrest : rest = icao f 38 51) :
    (SquitterHead.ofFrame fix f).frame tc rest = f := by
  rw [← BitVec.eq_of_toNat_eq htc, hrest]
  simp (disch := omega) only [SquitterHead.frame, SquitterHead.ofFrame, icao_append_icao]
  exact icao_self f

/-- The parts a DF17 frame is put together from are its fields. -/
theorem SquitterHead.fields_frame (h : SquitterHead) (tc : BitVec 5) (rest : BitVec 51) :
    SquitterHead.ofFrame h.fix (h.frame tc rest) = h ∧ icao (h.frame tc rest) 33 5 = tc ∧
      icao (h.frame tc rest) 38 51 = rest := by
  have hframe := SquitterHead.frame_eq_of_tc (fix := h.fix) (f := h.frame tc rest) rfl rfl
  obtain ⟨hdf, htail⟩ := append_eq_append_iff.1 hframe
  simp only [append_eq_append_iff] at htail
  obtain ⟨hca, haa, htc, hrest, hparity⟩ := htail
  refine ⟨?_, htc, hrest⟩
  cases h
  exact SquitterHead.mk.injEq .. ▸ ⟨hdf, hca, haa, hparity, rfl⟩

@[simp] theorem SquitterHead.ofFrame_frame (h : SquitterHead) (tc : BitVec 5) (rest : BitVec 51) :
    SquitterHead.ofFrame h.fix (h.frame tc rest) = h :=
  have ⟨hhead, _, _⟩ := h.fields_frame tc rest
  hhead

@[simp] theorem SquitterHead.icao_frame_tc (h : SquitterHead) (tc : BitVec 5) (rest : BitVec 51) :
    icao (h.frame tc rest) 33 5 = tc :=
  have ⟨_, htc, _⟩ := h.fields_frame tc rest
  htc

@[simp] theorem SquitterHead.icao_frame_rest (h : SquitterHead) (tc : BitVec 5) (rest : BitVec 51) :
    icao (h.frame tc rest) 38 51 = rest :=
  have ⟨_, _, hrest⟩ := h.fields_frame tc rest
  hrest

/-- The ST of a TC 19 message is the first field after its TC (30_encoding R132, R133). -/
theorem SquitterHead.frame19_eq_frame (h : SquitterHead) (st : BitVec 3) (rest : BitVec 48) :
    h.frame19 st rest = h.frame 19 (st ++ rest) := by
  rw [SquitterHead.frame19, SquitterHead.frame, BitVec.append_assoc]
  rfl

@[simp] theorem SquitterHead.icao_frame19_st (h : SquitterHead) (st : BitVec 3) (rest : BitVec 48) :
    icao (h.frame19 st rest) 38 3 = st := by
  have hst := icao_icao (h.frame19 st rest) (p := 38) (m := 51) (a := 1) (w := 3) (by decide) (by decide) (by decide)
  rw [← hst, h.frame19_eq_frame, h.icao_frame_rest]
  exact icao_append_left st rest

@[simp] theorem SquitterHead.icao_frame19_rest (h : SquitterHead) (st : BitVec 3) (rest : BitVec 48) :
    icao (h.frame19 st rest) 41 48 = rest := by
  have hrest := icao_icao (h.frame19 st rest) (p := 38) (m := 51) (a := 4) (w := 48) (by decide) (by decide) (by decide)
  rw [← hrest, h.frame19_eq_frame, h.icao_frame_rest]
  exact (icao_append_right (a := 1) st rest (by decide) (by decide)).trans (icao_self rest)

@[simp] theorem SquitterHead.icao_frame19_tc (h : SquitterHead) (st : BitVec 3) (rest : BitVec 48) :
    icao (h.frame19 st rest) 33 5 = 19#5 := by
  rw [h.frame19_eq_frame]
  exact h.icao_frame_tc 19 _

/-- A verified DF17 frame with TC 19 is its head, its ST and the 48 other bits of its ME field. -/
theorem SquitterHead.frame19_eq_of_st {fix : BitFix} {f : BitVec 112} {st : BitVec 3} {rest : BitVec 48}
    (htc : (icao f 33 5).toNat = 19) (hst : (icao f 38 3).toNat = st.toNat) (hrest : rest = icao f 41 48) :
    (SquitterHead.ofFrame fix f).frame19 st rest = f := by
  rw [SquitterHead.frame19_eq_frame, ← BitVec.eq_of_toNat_eq hst, hrest]
  exact SquitterHead.frame_eq_of_tc htc (icao_append_icao f (by decide) (by decide))

@[simp] theorem Identification.bits_ofFrame (f : BitVec 112) : (Identification.ofFrame f).bits = icao f 38 51 := by
  simp (disch := omega) only [Identification.bits, Identification.ofFrame, icao_append_icao]

theorem Identification.bits_injective {f g : Identification} (h : f.bits = g.bits) : f = g := by
  cases f
  cases g
  simpa only [append_eq_append_iff, Identification.mk.injEq] using append_eq_append_iff.1 h

@[simp] theorem Identification.ofFrame_frame (h : SquitterHead) (tc : BitVec 5) (m : Identification) :
    Identification.ofFrame (h.frame tc m.bits) = m :=
  Identification.bits_injective ((Identification.bits_ofFrame _).trans (h.icao_frame_rest tc m.bits))

@[simp] theorem SurfacePosition.bits_ofFrame (f : BitVec 112) : (SurfacePosition.ofFrame f).bits = icao f 38 51 := by
  simp (disch := omega) only [SurfacePosition.bits, SurfacePosition.ofFrame, icao_append_icao]

theorem SurfacePosition.bits_injective {f g : SurfacePosition} (h : f.bits = g.bits) : f = g := by
  cases f
  cases g
  simpa only [append_eq_append_iff, SurfacePosition.mk.injEq] using append_eq_append_iff.1 h

@[simp] theorem SurfacePosition.ofFrame_frame (h : SquitterHead) (tc : BitVec 5) (m : SurfacePosition) :
    SurfacePosition.ofFrame (h.frame tc m.bits) = m :=
  SurfacePosition.bits_injective ((SurfacePosition.bits_ofFrame _).trans (h.icao_frame_rest tc m.bits))

@[simp] theorem AirbornePosition.bits_ofFrame (f : BitVec 112) : (AirbornePosition.ofFrame f).bits = icao f 38 51 := by
  simp (disch := omega) only [AirbornePosition.bits, AirbornePosition.ofFrame, icao_append_icao]

theorem AirbornePosition.bits_injective {f g : AirbornePosition} (h : f.bits = g.bits) : f = g := by
  cases f
  cases g
  simpa only [append_eq_append_iff, AirbornePosition.mk.injEq] using append_eq_append_iff.1 h

@[simp] theorem AirbornePosition.ofFrame_frame (h : SquitterHead) (tc : BitVec 5) (m : AirbornePosition) :
    AirbornePosition.ofFrame (h.frame tc m.bits) = m :=
  AirbornePosition.bits_injective ((AirbornePosition.bits_ofFrame _).trans (h.icao_frame_rest tc m.bits))

@[simp] theorem OtherMe.bits_ofFrame (f : BitVec 112) : (OtherMe.ofFrame f).bits = icao f 38 51 := by
  simp (disch := omega) only [OtherMe.bits, OtherMe.ofFrame, icao_append_icao]

theorem OtherMe.bits_injective {f g : OtherMe} (h : f.bits = g.bits) : f = g := by
  cases f
  cases g
  simpa only [append_eq_append_iff, OtherMe.mk.injEq] using append_eq_append_iff.1 h

@[simp] theorem OtherMe.ofFrame_frame (h : SquitterHead) (tc : BitVec 5) (m : OtherMe) :
    OtherMe.ofFrame (h.frame tc m.bits) = m :=
  OtherMe.bits_injective ((OtherMe.bits_ofFrame _).trans (h.icao_frame_rest tc m.bits))

@[simp] theorem VelocityGround.bits_ofFrame (f : BitVec 112) : (VelocityGround.ofFrame f).bits = icao f 41 48 := by
  simp (disch := omega) only [VelocityGround.bits, VelocityGround.ofFrame, icao_append_icao]

theorem VelocityGround.bits_injective {f g : VelocityGround} (h : f.bits = g.bits) : f = g := by
  cases f
  cases g
  simpa only [append_eq_append_iff, VelocityGround.mk.injEq] using append_eq_append_iff.1 h

@[simp] theorem VelocityGround.ofFrame_frame19 (h : SquitterHead) (st : BitVec 3) (m : VelocityGround) :
    VelocityGround.ofFrame (h.frame19 st m.bits) = m :=
  VelocityGround.bits_injective ((VelocityGround.bits_ofFrame _).trans (h.icao_frame19_rest st m.bits))

@[simp] theorem VelocityAir.bits_ofFrame (f : BitVec 112) : (VelocityAir.ofFrame f).bits = icao f 41 48 := by
  simp (disch := omega) only [VelocityAir.bits, VelocityAir.ofFrame, icao_append_icao]

theorem VelocityAir.bits_injective {f g : VelocityAir} (h : f.bits = g.bits) : f = g := by
  cases f
  cases g
  simpa only [append_eq_append_iff, VelocityAir.mk.injEq] using append_eq_append_iff.1 h

@[simp] theorem VelocityAir.ofFrame_frame19 (h : SquitterHead) (st : BitVec 3) (m : VelocityAir) :
    VelocityAir.ofFrame (h.frame19 st m.bits) = m :=
  VelocityAir.bits_injective ((VelocityAir.bits_ofFrame _).trans (h.icao_frame19_rest st m.bits))

end Sys2Proof

/-! The round trips of the decoder and the encoder (30_encoding R110 to R134): command words, received frames and verified
squitters, each in both directions, and the reserved command words (R113). -/

namespace Sys2Proof

open Machine

/-! ### Command words -/

theorem commandWord_toNat (op sel : BitVec 8) : (commandWord op sel).toNat = 256 * sel.toNat + op.toNat := by
  have hword : (0#16 ++ (sel ++ op)).toNat = 256 * sel.toNat + op.toNat := by
    rw [toNat_append_add, toNat_append_add, BitVec.toNat_ofNat]
    omega
  exact hword

theorem opcode_toNat (w : U32) : (w.extractLsb' 0 8).toNat = w.toNat % 256 := by
  rw [BitVec.extractLsb'_toNat, Nat.shiftRight_zero]

theorem selector_toNat (w : U32) : (w.extractLsb' 8 8).toNat = w.toNat / 256 % 256 := by
  rw [BitVec.extractLsb'_toNat, Nat.shiftRight_eq_div_pow]

theorem commandWord_toNat_mod (op sel : BitVec 8) : (commandWord op sel).toNat % 256 = op.toNat := by
  rw [commandWord_toNat]
  omega

theorem commandWord_opcode (op sel : BitVec 8) : (commandWord op sel).extractLsb' 0 8 = op := by
  apply BitVec.eq_of_toNat_eq
  rw [opcode_toNat, commandWord_toNat_mod]

theorem commandWord_selector (op sel : BitVec 8) : (commandWord op sel).extractLsb' 8 8 = sel := by
  apply BitVec.eq_of_toNat_eq
  rw [selector_toNat, commandWord_toNat]
  omega

/-- 30_encoding R113, in numbers. -/
theorem reservedWord_iff (w : U32) :
    reservedWord w = true ↔
      13 < w.toNat % 256 ∨ w.toNat / 65536 ≠ 0 ∨
        (w.toNat / 256 % 256 ≠ 0 ∧ w.toNat % 256 ≠ 2 ∧ w.toNat % 256 ≠ 3) := by
  have hhigh : (w.extractLsb' 16 16).toNat = w.toNat / 65536 := by
    have := w.isLt
    rw [BitVec.extractLsb'_toNat, Nat.shiftRight_eq_div_pow]
    omega
  simp only [reservedWord, Bool.or_eq_true, Bool.and_eq_true, bne_iff_ne, ne_eq, ← BitVec.toNat_inj, decide_eq_true_eq,
    hhigh, opcode_toNat, selector_toNat, BitVec.ofNat_eq_ofNat, BitVec.toNat_ofNat]
  omega

/-- 30_encoding R110, R113: a word that is not reserved is an opcode of the table and a selector, which is 0 where the
command takes none. -/
theorem legalWord_cases {w : U32} (h : reservedWord w = false) :
    (∃ sel, w = commandWord 2 sel) ∨ (∃ sel, w = commandWord 3 sel) ∨
      ∃ k ≤ 13, w = commandWord (BitVec.ofNat 8 k) 0 := by
  rw [Bool.eq_false_iff, ne_eq, reservedWord_iff] at h
  have hword : ∀ {op sel : BitVec 8}, sel.toNat = w.toNat / 256 → op.toNat = w.toNat % 256 →
      w = commandWord op sel := by
    intro op sel hsel hop
    apply BitVec.eq_of_toNat_eq
    rw [commandWord_toNat, hsel, hop]
    omega
  have hsel : w.toNat / 256 < 256 := by omega
  have hselector : (w.extractLsb' 8 8).toNat = w.toNat / 256 := by rw [selector_toNat, Nat.mod_eq_of_lt hsel]
  by_cases h2 : w.toNat % 256 = 2
  · exact .inl ⟨_, hword hselector h2.symm⟩
  by_cases h3 : w.toNat % 256 = 3
  · exact .inr (.inl ⟨_, hword hselector h3.symm⟩)
  · have hzero : w.toNat / 256 = 0 := by omega
    refine .inr (.inr ⟨w.toNat % 256, by omega, hword hzero.symm ?_⟩)
    rw [BitVec.toNat_ofNat, Nat.mod_mod]

/-- A command that uses SEL takes every selector (30_encoding R110). -/
theorem reservedWord_selector {op : BitVec 8} (h : op.toNat = 2 ∨ op.toNat = 3) (sel : BitVec 8) :
    reservedWord (commandWord op sel) = false := by
  rw [Bool.eq_false_iff, ne_eq, reservedWord_iff, commandWord_toNat_mod, commandWord_toNat]
  omega

theorem decodeCommand_regWrite (sel : BitVec 8) (a b : U64) :
    decodeCommand (commandWord 2 sel) a b = .regWrite sel a := by
  rw [decodeCommand, reservedWord_selector (.inl rfl), commandWord_opcode, commandWord_selector]
  rfl

theorem decodeCommand_regRead (sel : BitVec 8) (a b : U64) :
    decodeCommand (commandWord 3 sel) a b = .regRead sel := by
  rw [decodeCommand, reservedWord_selector (.inr rfl), commandWord_opcode, commandWord_selector]
  rfl

theorem decodeCommand_of_reserved {w : U32} (h : reservedWord w = true) (a b : U64) :
    decodeCommand w a b = .reservedCmd w := if_pos h

/-- What a command word that is not reserved decodes to: another instruction than RESERVED_CMD, which encodes to the same
word with the operands that its opcode takes (30_encoding R111). -/
theorem decodeCommand_of_legal {w : U32} (h : reservedWord w = false) (a b : U64) :
    (∀ u, decodeCommand w a b ≠ .reservedCmd u) ∧ (decodeCommand w a b).wf = true ∧
      encode (decodeCommand w a b) = .command w
        (if w.toNat % 256 ∈ [0x02, 0x04, 0x05, 0x06, 0x0A, 0x0B, 0x0C, 0x0D] then a else 0)
        (if w.toNat % 256 ∈ [0x04, 0x06, 0x08, 0x0C, 0x0D] then b else 0) := by
  rcases legalWord_cases h with ⟨sel, rfl⟩ | ⟨sel, rfl⟩ | ⟨k, hk, rfl⟩
  · have hop : (commandWord 2 sel).toNat % 256 = 2 := commandWord_toNat_mod 2 sel
    rw [decodeCommand_regWrite, hop]
    exact ⟨nofun, rfl, rfl⟩
  · have hop : (commandWord 3 sel).toNat % 256 = 3 := commandWord_toNat_mod 3 sel
    rw [decodeCommand_regRead, hop]
    exact ⟨nofun, rfl, rfl⟩
  · interval_cases k <;> exact ⟨nofun, rfl, rfl⟩

/-- Exactly the reserved words become RESERVED_CMD (30_encoding R113). -/
theorem decodeCommand_eq_reserved_iff (w : U32) (a b : U64) :
    decodeCommand w a b = .reservedCmd w ↔ reservedWord w = true := by
  refine ⟨fun h => ?_, fun h => decodeCommand_of_reserved h a b⟩
  by_contra hlegal
  obtain ⟨hother, _⟩ := decodeCommand_of_legal (Bool.eq_false_iff.2 hlegal) a b
  exact hother w h

/-- RESERVED_CMD raises ERR_ILLEGAL_CMD, whatever BUSY is (30_encoding R113, 47_commands R360). -/
theorem exec_reservedCmd (w : U32) (s : State) : exec (.reservedCmd w) s = .next (failed s .errIllegalCmd 0x10) := rfl

/-- Settles O4: a reserved word decodes to RESERVED_CMD by the first test of the decoder, and a legal one to the row of its
opcode. -/
theorem reservedCommandsAreIllegal : Obligations.ReservedCommandsAreIllegal :=
  ⟨fun w a b => (decodeCommand_eq_reserved_iff w a b).trans (reservedWord_iff w), exec_reservedCmd⟩

/-! ### Received frames -/

/-- 30_encoding R120: the first bit tells the length. -/
theorem msb_eq_false_iff_df (f : BitVec 56) : f.msb = false ↔ (icao f 1 5).toNat < 16 := by
  have := f.isLt
  rw [BitVec.msb_eq_decide, decide_eq_false_iff_not, icao_toNat]
  omega

/-- 30_encoding R120, for a long frame. -/
theorem msb_eq_true_iff_df (f : BitVec 112) : f.msb = true ↔ 16 ≤ (icao f 1 5).toNat := by
  have := f.isLt
  rw [BitVec.msb_eq_decide, decide_eq_true_eq, icao_toNat]
  omega

theorem decode_short {f : BitVec 56} (h : (icao f 1 5).toNat < 16) :
    decode (.short f) = .ok (decodeReceived (f ++ 0#56 : BitVec (56 + 56))) :=
  if_neg (Bool.eq_false_iff.1 ((msb_eq_false_iff_df f).2 h))

theorem decode_long {f : BitVec 112} (h : 16 ≤ (icao f 1 5).toNat) : decode (.long f) = .ok (decodeReceived f) :=
  if_pos ((msb_eq_true_iff_df f).2 h)

@[simp] theorem shortPart_append (f g : BitVec 56) : shortPart (f ++ g : BitVec (56 + 56)) = f := icao_append_left f g

@[simp] theorem icao_shortPart_df (fr : BitVec 112) : icao (shortPart fr) 1 5 = icao fr 1 5 :=
  icao_icao fr (by decide) (by decide) (by decide)

@[simp] theorem icao_df_append (f g : BitVec 56) : icao (f ++ g : BitVec (56 + 56)) 1 5 = icao f 1 5 := by
  rw [← shortPart_append f g, icao_shortPart_df, shortPart_append]

theorem decode_shortFrame {df : BitVec 5} (h : df.toNat < 16) (rest : BitVec 51) :
    decode (.short (shortFrame df rest)) = .ok (decodeReceived (shortFrame df rest ++ 0#56 : BitVec (56 + 56))) :=
  decode_short (by rwa [icao_shortFrame_df])

theorem decode_longFrame {df : BitVec 5} (h : 16 ≤ df.toNat) (rest : BitVec 107) :
    decode (.long (longFrame df rest)) = .ok (decodeReceived (longFrame df rest)) :=
  decode_long (by rwa [icao_longFrame_df])

theorem decodeReceived_wf (fr : BitVec 112) : (decodeReceived fr).wf = true := by
  unfold decodeReceived
  split <;> rfl

/-- DF 24 to 31 are all Comm-D (30_encoding R121). -/
theorem decodeReceived_eq_commD {fr : BitVec 112} (h : 24 ≤ (icao fr 1 5).toNat) :
    decodeReceived fr = .df24CommD (CommD.ofFrame fr) := by
  unfold decodeReceived
  split
  case h_25 => rfl
  all_goals omega

/-- The fields of a received 56-bit frame hold all of its bits. -/
theorem encode_decodeReceived_short {fr : BitVec 112} (h16 : (icao fr 1 5).toNat < 16) :
    encode (decodeReceived fr) = .short (shortPart fr) := by
  have hframe : ∀ {df : BitVec 5} {rest : BitVec 51}, (icao fr 1 5).toNat = df.toNat →
      rest = icao (shortPart fr) 6 51 → Encoded.short (shortFrame df rest) = .short (shortPart fr) := fun hdf hrest =>
    congrArg Encoded.short (shortFrame_eq_of_df (by rwa [icao_shortPart_df]) hrest)
  rw [decodeReceived]
  interval_cases (icao fr 1 5).toNat
  all_goals exact hframe rfl (by simp)

/-- The fields of a received 112-bit frame hold all of its bits. -/
theorem encode_decodeReceived_long {fr : BitVec 112} (h16 : 16 ≤ (icao fr 1 5).toNat) :
    encode (decodeReceived fr) = .long fr := by
  by_cases hcommD : 24 ≤ (icao fr 1 5).toNat
  · rw [decodeReceived_eq_commD hcommD]
    exact congrArg Encoded.long (CommD.frame_ofFrame hcommD)
  have hframe : ∀ {df : BitVec 5} {rest : BitVec 107}, (icao fr 1 5).toNat = df.toNat → rest = icao fr 6 107 →
      Encoded.long (longFrame df rest) = .long fr := fun hdf hrest =>
    congrArg Encoded.long (longFrame_eq_of_df hdf hrest)
  rw [decodeReceived]
  interval_cases (icao fr 1 5).toNat
  all_goals exact hframe rfl (by simp)

/-! ### Verified squitters -/

/-- A squitter decodes exactly when its head is well-formed (43_checksum R227), and then by the ME dispatch. -/
theorem decode_squitter_eq_ok_iff (fix : BitFix) (f : BitVec 112) (i : Instr) :
    decode (.squitter fix f) = .ok i ↔
      (SquitterHead.ofFrame fix f).wf = true ∧ decodeMe (SquitterHead.ofFrame fix f) f = i := by
  have hwf : (SquitterHead.ofFrame fix f).wf = true ↔
      fix.inFrame = true ∧ (SquitterHead.ofFrame fix f).receivedDf = 17#5 := by
    rw [SquitterHead.wf, Bool.and_eq_true, beq_iff_eq]
    rfl
  rw [decode, hwf]
  by_cases hfix : fix.inFrame = true
  · by_cases hdf : (SquitterHead.ofFrame fix f).receivedDf = 17#5 <;> simp [hfix, hdf]
  · simp [hfix]

theorem decode_frame {h : SquitterHead} (hwf : h.wf = true) (tc : BitVec 5) (rest : BitVec 51) :
    decode (.squitter h.fix (h.frame tc rest)) = .ok (decodeMe h (h.frame tc rest)) := by
  rw [decode_squitter_eq_ok_iff, h.ofFrame_frame]
  exact ⟨hwf, rfl⟩

theorem decodeMe_frame19 (h : SquitterHead) (st : BitVec 3) (rest : BitVec 48) :
    decodeMe h (h.frame19 st rest) = decodeMe19 h (h.frame19 st rest) := by
  rw [decodeMe, h.icao_frame19_tc]
  rfl

theorem decode_frame19 {h : SquitterHead} (hwf : h.wf = true) (st : BitVec 3) (rest : BitVec 48) :
    decode (.squitter h.fix (h.frame19 st rest)) = .ok (decodeMe19 h (h.frame19 st rest)) := by
  rw [← decodeMe_frame19, h.frame19_eq_frame, decode_frame hwf]

theorem decodeMe19_wf (h : SquitterHead) (f : BitVec 112) : (decodeMe19 h f).wf = h.wf := by
  unfold decodeMe19
  split <;> rfl

theorem decodeMe_wf (h : SquitterHead) (f : BitVec 112) : (decodeMe h f).wf = h.wf := by
  unfold decodeMe
  split
  case h_20 => exact decodeMe19_wf h f
  all_goals rfl

theorem encode_decodeMe19 (fix : BitFix) {f : BitVec 112} (h19 : (icao f 33 5).toNat = 19) :
    encode (decodeMe19 (SquitterHead.ofFrame fix f) f) = .squitter fix f := by
  have hframe : ∀ {st : BitVec 3} {rest : BitVec 48}, (icao f 38 3).toNat = st.toNat → rest = icao f 41 48 →
      Encoded.squitter fix ((SquitterHead.ofFrame fix f).frame19 st rest) = .squitter fix f := fun hst hrest =>
    congrArg (Encoded.squitter fix) (SquitterHead.frame19_eq_of_st h19 hst hrest)
  have hst : (icao f 38 3).toNat < 8 := (icao f 38 3).isLt
  rw [decodeMe19]
  interval_cases (icao f 38 3).toNat
  all_goals exact hframe rfl (by simp)

/-- The fields of a verified squitter hold all of its bits. -/
theorem encode_decodeMe (fix : BitFix) (f : BitVec 112) :
    encode (decodeMe (SquitterHead.ofFrame fix f) f) = .squitter fix f := by
  have hframe : ∀ {tc : BitVec 5} {rest : BitVec 51}, (icao f 33 5).toNat = tc.toNat → rest = icao f 38 51 →
      Encoded.squitter fix ((SquitterHead.ofFrame fix f).frame tc rest) = .squitter fix f := fun htc hrest =>
    congrArg (Encoded.squitter fix) (SquitterHead.frame_eq_of_tc htc hrest)
  have htc32 : (icao f 33 5).toNat < 32 := (icao f 33 5).isLt
  rw [decodeMe]
  interval_cases htc : (icao f 33 5).toNat
  -- Every row but TC 19 ends in its own layout.
  pick_goal 20
  · exact encode_decodeMe19 fix htc
  all_goals exact hframe rfl (by simp)

/-! ### The round trips -/

/-- Settles O3: every dispatch, of DF, TC, ST or opcode, ends in a layout that keeps the bits it is given. -/
theorem decodeThenEncode : Obligations.DecodeThenEncode := by
  refine ⟨?short, ?long, ?squitter, ?command⟩
  case short =>
    intro f hmsb
    have hdf := (msb_eq_false_iff_df f).1 hmsb
    have hencode := encode_decodeReceived_short (fr := (f ++ 0#56 : BitVec (56 + 56))) (by rwa [icao_df_append])
    exact ⟨_, decode_short hdf, decodeReceived_wf _, hencode.trans (congrArg _ (shortPart_append f _))⟩
  case long =>
    intro f hmsb
    have hdf := (msb_eq_true_iff_df f).1 hmsb
    exact ⟨_, decode_long hdf, decodeReceived_wf f, encode_decodeReceived_long hdf⟩
  case squitter =>
    intro fix f i hdecode
    obtain ⟨hwf, rfl⟩ := (decode_squitter_eq_ok_iff fix f i).1 hdecode
    exact ⟨(decodeMe_wf _ f).trans hwf, encode_decodeMe fix f⟩
  case command =>
    intro w a b
    by_cases hword : reservedWord w = true
    · exact ⟨_, 0, 0, congrArg _ (decodeCommand_of_reserved hword a b), hword, rfl, .inl ⟨rfl, rfl, rfl⟩⟩
    · obtain ⟨hlegal, hwf, hencode⟩ := decodeCommand_of_legal (Bool.eq_false_iff.2 hword) a b
      exact ⟨_, _, _, rfl, hwf, hencode, .inr ⟨hlegal, rfl, rfl⟩⟩

/-- Settles O2, by the cases of the instruction, grouped by what encodes them: the dispatch field of the encoding selects
the instruction's own row, and the row's layout gives back its fields. -/
theorem encodeThenDecode : Obligations.EncodeThenDecode := by
  intro i hwf
  cases i with
  | nop | reset | sampleWrite a b | sampleRead a | process a b | cancel | sweep b | msgPop | trackRead a | trackSlot a
  | cacheInsert a b | cacheQuery a b => rfl
  | regWrite sel a => exact congrArg Except.ok (decodeCommand_regWrite sel a 0)
  | regRead sel => exact congrArg Except.ok (decodeCommand_regRead sel 0 0)
  | reservedCmd w => exact congrArg Except.ok (decodeCommand_of_reserved hwf 0 0)
  | df1Unsupported body | df2Unsupported body | df3Unsupported body | df6Unsupported body | df7Unsupported body
  | df8Unsupported body | df9Unsupported body | df10Unsupported body | df12Unsupported body
  | df13Unsupported body | df14Unsupported body | df15Unsupported body
  | df0ShortAirAir f | df4SurvAlt f | df5SurvId f | df11AllCall f =>
    simp (disch := decide) [encode, decode_shortFrame, decodeReceived]
  | df18Unsupported body | df19Unsupported body | df22Unsupported body | df23Unsupported body
  | df16LongAirAir f | df17ExtSquitter f | df20CommbAlt f | df21CommbId f =>
    simp (disch := decide) [encode, decode_longFrame, decodeReceived]
  | df24CommD f =>
    have hdf := f.le_df_frame
    exact (decode_long (Nat.le_trans (by decide) hdf)).trans (by rw [decodeReceived_eq_commD hdf, f.ofFrame_frame])
  | meTc0NoPosition h m | meTc23Other h m | meTc24Other h m | meTc25Other h m | meTc26Other h m
  | meTc27Other h m | meTc28Other h m | meTc29Other h m | meTc30Other h m | meTc31Other h m
  | meTc1Identification h m | meTc2Identification h m | meTc3Identification h m | meTc4Identification h m
  | meTc5SurfacePosition h m | meTc6SurfacePosition h m | meTc7SurfacePosition h m | meTc8SurfacePosition h m
  | meTc9AirbornePositionBaro h m | meTc10AirbornePositionBaro h m | meTc11AirbornePositionBaro h m
  | meTc12AirbornePositionBaro h m | meTc13AirbornePositionBaro h m | meTc14AirbornePositionBaro h m
  | meTc15AirbornePositionBaro h m | meTc16AirbornePositionBaro h m | meTc17AirbornePositionBaro h m
  | meTc18AirbornePositionBaro h m | meTc20AirbornePositionGnss h m | meTc21AirbornePositionGnss h m
  | meTc22AirbornePositionGnss h m =>
    simp [encode, decode_frame hwf, decodeMe]
  | meTc19St1VelocityGround h m | meTc19St2VelocityGround h m | meTc19St3VelocityAirspeed h m
  | meTc19St4VelocityAirspeed h m | meTc19St0Reserved h m | meTc19St5Reserved h m | meTc19St6Reserved h m
  | meTc19St7Reserved h m =>
    simp [encode, decode_frame19 hwf, decodeMe19]

/-- Settles O1: each word runs through the decoder. -/
theorem sampleWordsDecode : Obligations.SampleWordsDecode := ⟨rfl, rfl, rfl, rfl, rfl, rfl, rfl, rfl⟩

end Sys2Proof

/-! The magnitude of a sample (40_magnitude R170, R171) is the rounded root: the integer square root is the floor of the
root, and rounding it up exactly when the remainder exceeds it gives the nearest integer. -/

namespace Sys2Proof.Machine

/-- The rounds of the integer square root end past the root: with `bits` of them left the root is within 2^bits of the
result so far. -/
theorem lt_isqrtFrom_succ_sq {n r : Nat} (bits : Nat) (h : n < (r + 2 ^ bits) * (r + 2 ^ bits)) :
    n < (isqrtFrom n bits r + 1) * (isqrtFrom n bits r + 1) := by
  induction bits generalizing r with
  | zero => exact h
  | succ b ih =>
    rw [isqrtFrom]
    split
    · have hhalves : r + 2 ^ (b + 1) = r + 2 ^ b + 2 ^ b := by omega
      exact ih (hhalves ▸ h)
    · next hnext => exact ih (Nat.lt_of_not_le hnext)

theorem lt_isqrt_succ_sq {n bits : Nat} (h : n < 2 ^ bits * 2 ^ bits) :
    n < (isqrt bits n + 1) * (isqrt bits n + 1) := by
  rw [isqrt]
  exact lt_isqrtFrom_succ_sq bits (by rwa [Nat.zero_add])

/-- The bounds of rounding, without fractions: r² - r < n ≤ r² + r is (r - 1/2)² < n < (r + 1/2)² for integers. -/
theorem roundSqrt_bounds {n : Nat} (h : n < 2 ^ 17 * 2 ^ 17) :
    n ≤ roundSqrt n * roundSqrt n + roundSqrt n ∧
      (roundSqrt n = 0 ∨ roundSqrt n * roundSqrt n < n + roundSqrt n) := by
  have hfloor : isqrt 17 n * isqrt 17 n ≤ n := isqrtFrom_sq_le 17 (Nat.zero_le n)
  have habove : n < (isqrt 17 n + 1) * (isqrt 17 n + 1) := lt_isqrt_succ_sq h
  rw [roundSqrt]
  generalize isqrt 17 n = f at hfloor habove
  have hnext : (f + 1) * (f + 1) = f * f + 2 * f + 1 := by ring
  rw [hnext] at habove
  split
  case isTrue hup =>
    rw [hnext]
    omega
  case isFalse hdown => omega

/-- The square of a distance is that of the signed difference it is the size of. -/
theorem centred_mul_self (x : Byte) : ((centred x * centred x : Nat) : Int) = ((x.toNat : Int) - 127) ^ 2 := by
  rw [centred, Int.natAbs_mul_self, pow_two]

/-- No sum of two squared distances is past the corner's. -/
theorem centred_sq_sum_le (i q : Byte) : centred i * centred i + centred q * centred q ≤ 32768 := by
  have hi : centred i * centred i ≤ 128 * 128 := Nat.mul_le_mul (centred_le i) (centred_le i)
  have hq : centred q * centred q ≤ 128 * 128 := Nat.mul_le_mul (centred_le q) (centred_le q)
  omega

/-- No magnitude wraps at 16 bits. -/
theorem magOf_toNat (i q : Byte) :
    (magOf i q).toNat = roundSqrt (129600 * (centred i * centred i + centred q * centred q)) := by
  have hsum := centred_sq_sum_le i q
  have hroot := roundSqrt_le (m := 65167) (n := 129600 * (centred i * centred i + centred q * centred q)) (by omega)
  rw [magOf, magLut, BitVec.toNat_ofNat, Nat.mod_eq_of_lt (by omega)]

/-- Settles O46: the bounds of rounding at 129600 times the sum of the squared distances, completed to squares. -/
theorem magnitudesAreRounded : Obligations.MagnitudesAreRounded := by
  intro i q n r hn hr
  have hsum := centred_sq_sum_le i q
  obtain ⟨hupper, hlower⟩ :=
    roundSqrt_bounds (n := 129600 * (centred i * centred i + centred q * centred q)) (by omega)
  rw [← magOf_toNat] at hupper hlower
  have hsquares : ((centred i * centred i + centred q * centred q : Nat) : Int) = n := by
    rw [hn, Nat.cast_add, centred_mul_self, centred_mul_self]
  zify at hupper hlower
  push_cast at hsquares
  rw [hsquares, ← hr] at hupper hlower
  exact ⟨by linarith, hlower.imp_right fun hlt => by linarith⟩

end Sys2Proof.Machine

/-! The scan steps that end without running a frame: a cancellation (41_preamble R187) and the two rejections of a noisy or
weak window (41_preamble R186, 42_bitslicer R203, R205), with the error count and the energy as sums over the bit pairs. -/

namespace Sys2Proof.Machine

/-! ### A cancelled run -/

/-- A scan step with a pending cancellation is `cancel`, wherever the scan stands (41_preamble R186). -/
theorem State.scanStep_of_cancelReq {s : State} (h : s.status.cancelReq = true) : s.scanStep = .done s.cancelRun :=
  if_pos h

/-- Settles O8: at the pipeline's turn a busy machine takes the scan step, and a pending cancellation is its first case. -/
theorem cancellationEndsTheRun : Obligations.CancellationEndsTheRun := by
  intro s hturn hbusy hcancel
  have hscan : s.fetch = { s with schedule := s.schedule.tail }.scanStep :=
    (State.fetch_pipelinesTurn hturn).trans (if_pos hbusy)
  rw [step_eq_outcome, hscan.trans (State.scanStep_of_cancelReq hcancel)]
  rfl

/-! ### Rejected windows -/

/-- Both kinds of step are an attempt on their window, after the step's counter and PST are written (41_preamble R186). -/
theorem ScansNext.fetch_window {s : State} (h : ScansNext s) {w : List (BitVec 17)} {c : Cnt} {p : ScanState}
    (hkind : s.scan.pst = .scanning ∧ preambleOk 4 s.magBehind = true ∧ w = windowAt s ∧ c = .preamble ∧
        p = .candidateFound ∨
      s.scan.pst = .correcting ∧ w = phaseCorrect .high (windowAt s) ∧ c = .phaseRetry ∧ p = .correcting) :
    s.fetch =
      State.attempt
        { s with
          schedule := s.schedule.tail
          scan := { s.scan with pst := p }
          counters := Counters.addTo s.counters c 1
          dp := { s.dp with win := w } } := by
  rcases hkind with ⟨hscan, hpreamble, rfl, rfl, rfl⟩ | ⟨hscan, rfl, rfl, rfl⟩
  · exact h.fetch_candidate hscan hpreamble
  · have hpst : { s.scan with pst := .correcting } = s.scan := by rw [← hscan]
    rw [h.fetch_retry hscan, hpst]

/-- An attempt over the error budget is rejected before FR and NBITS are written (42_bitslicer R203). -/
theorem State.attempt_of_overBudget {s : State} {w : List (BitVec 17)} (hw : s.dp.win = w)
    (h : (if s.regs.ctrl.getLsbD 0 then 2 else 0) < errorCount (sliceWindow w)) :
    s.attempt =
      .done (State.reject { s with dp := { slicedDatapath w with fr := s.dp.fr, nbits := s.dp.nbits } } .rejErrBits) := by
  rw [s.attempt_eq w hw, if_pos h]

/-- An attempt within the error budget with too little energy is rejected after packing (42_bitslicer R205). -/
theorem State.attempt_of_tooWeak {s : State} {w : List (BitVec 17)} (hw : s.dp.win = w)
    (h : errorCount (sliceWindow w) ≤ (if s.regs.ctrl.getLsbD 0 then 2 else 0))
    (hweak : tooWeak 1275 (frameLen 16 (icao (frameOfWindow w) 1 5)) w = true) :
    s.attempt = .done (State.reject { s with dp := slicedDatapath w } .rejEnergy) := by
  rw [s.attempt_eq w hw, if_neg (Nat.not_lt.2 h), if_pos hweak]

/-! ### The error count -/

theorem sampleGap_eq_zero_iff (lo hi : BitVec 17) : sampleGap lo hi = 0 ↔ lo = hi := by
  rw [sampleGap, Int.natAbs_eq_zero, ← BitVec.toNat_inj]
  omega

/-- An error sample is made where the bit is decided afresh on an equal pair (42_bitslicer R201). -/
theorem sliceBit_error (prev : Option SliceBit) (lo hi : BitVec 17) :
    (sliceBit prev lo hi).2 = decide ((prev = none ∨ 256 ≤ sampleGap lo hi) ∧ sampleGap lo hi = 0) := by
  simp only [sampleGap_eq_zero_iff]
  cases prev with
  | none => simp [sliceBit]
  | some p =>
    rw [sliceBit]
    split
    · next hgap => simp [Nat.not_le.2 hgap]
    · next hgap => simp [Nat.not_lt.1 hgap]

/-- Of the first n entries of a list, as many satisfy p as there are places below n whose entry does. -/
theorem countP_take_eq_length_filter {α : Type} (p : α → Bool) (q : Nat → Bool) {l : List α} {n : Nat}
    (hn : n ≤ l.length) (h : ∀ k x, k < n → l[k]? = some x → p x = q k) :
    (l.take n).countP p = ((List.range n).filter q).length := by
  induction n with
  | zero => rfl
  | succ n ih =>
    have hlast := List.getElem?_eq_getElem (l := l) (i := n) hn
    rw [List.take_add_one, hlast, List.countP_append, ih (Nat.le_of_succ_le hn) fun k x hk => h k x (by omega),
      List.range_succ, List.filter_append, List.length_append, List.filter_singleton, ← h n _ (by omega) hlast,
      Option.toList_some, List.countP_singleton]
    cases p l[n] <;> rfl

/-- Pair k of a window (42_bitslicer R200). -/
theorem window_pair {w : List (BitVec 17)} (hw : w.length = 240) {k : Nat} (hk : k < 112) :
    w[16 + 2 * k]? = some (w.getD (16 + 2 * k) 0) ∧ w[17 + 2 * k]? = some (w.getD (17 + 2 * k) 0) := by
  constructor <;>
    · rw [List.getD_eq_getElem?_getD, List.getElem?_eq_getElem (by omega), Option.getD_some]

/-- Bit k is an error sample iff its pair is equal and the bit is decided afresh (42_bitslicer R201). -/
theorem sliceWindow_error {w : List (BitVec 17)} (hw : w.length = 240) {k : Nat} (hk : k < 112) {b : SliceBit × Bool}
    (hb : (sliceWindow w)[k]? = some b) {gap : Nat}
    (hgap : gap = sampleGap (w.getD (16 + 2 * k) 0) (w.getD (17 + 2 * k) 0)) :
    b.2 = decide ((k = 0 ∨ 256 ≤ gap) ∧ gap = 0) := by
  obtain ⟨hlo, hhi⟩ := window_pair hw hk
  rw [sliceWindow_getElem? hlo hhi, Option.some_inj] at hb
  rw [← hb, sliceBit_error, ← hgap]
  rcases Nat.eq_zero_or_pos k with hzero | hpos
  · simp [hzero]
  · have hprev : k - 1 < (sliceWindow w).length := by rw [sliceWindow_length hw]; omega
    simp [Nat.ne_of_gt hpos, List.getElem?_eq_getElem hprev]

/-- The error count as a count of pairs (42_bitslicer R201). -/
theorem errorCount_sliceWindow {w : List (BitVec 17)} (hw : w.length = 240) {gap : Nat → Nat}
    (hgap : ∀ k, gap k = sampleGap (w.getD (16 + 2 * k) 0) (w.getD (17 + 2 * k) 0)) :
    errorCount (sliceWindow w) = ((List.range 56).filter (fun k => (k = 0 ∨ 256 ≤ gap k) ∧ gap k = 0)).length :=
  countP_take_eq_length_filter _ _ (by rw [sliceWindow_length hw]; omega)
    fun k _ hk hb => sliceWindow_error hw (by omega) hb (hgap k)

/-! ### The frame length and the energy -/

/-- 42_bitslicer R204. -/
theorem frameLen_eq_ite_lt (n : Nat) (df : BitVec 5) : frameLen n df = if df.toNat < n then .short else .long := by
  rw [frameLen, ← ite_not]
  simp only [Nat.not_le]

theorem sumGaps_eq_sum {n : Nat} {l : List (BitVec 17)} (h : 2 * n ≤ l.length) :
    sumGaps n l = ((List.range n).map fun k => sampleGap (l.getD (2 * k) 0) (l.getD (2 * k + 1) 0)).sum := by
  induction n generalizing l with
  | zero => cases l <;> rfl
  | succ n ih =>
    match l, h with
    | lo :: hi :: rest, h =>
      rw [List.length_cons, List.length_cons] at h
      rw [sumGaps, ih (by omega), List.range_succ_eq_map, List.map_cons, List.sum_cons, List.map_map]
      rfl

/-- The energy check as a mean over the pairs of the claimed length (42_bitslicer R205). -/
theorem tooWeak_iff {w : List (BitVec 17)} (hw : w.length = 240) {gap : Nat → Nat}
    (hgap : ∀ k, gap k = sampleGap (w.getD (16 + 2 * k) 0) (w.getD (17 + 2 * k) 0)) (e : Nat) (len : FrameLen) :
    tooWeak e len w = true ↔ ((List.range len.nbits).map gap).sum / len.nbits < e := by
  have hlen : 2 * len.nbits ≤ (w.drop 16).length := by
    rw [List.length_drop, hw]
    cases len <;> decide
  have hpairs : gap = fun k => sampleGap ((w.drop 16).getD (2 * k) 0) ((w.drop 16).getD (2 * k + 1) 0) := by
    funext k
    rw [hgap, List.getD_eq_getElem?_getD, List.getD_eq_getElem?_getD, List.getD_eq_getElem?_getD,
      List.getD_eq_getElem?_getD, List.getElem?_drop, List.getElem?_drop, ← Nat.add_assoc, Nat.add_right_comm 16 _ 1]
  rw [tooWeak, decide_eq_true_iff, sumGaps_eq_sum hlen, ← hpairs]

/-- Settles O9: both kinds of step are an attempt whose error budget and energy check reject in this order; the count and
the sum run over the pairs of the window. -/
theorem noisyWindowsAreRejected : Obligations.NoisyWindowsAreRejected := by
  refine ⟨fun s w c p h hkind => ⟨fun hover => ?overBudget, fun hwithin hweak => ?weak⟩, fun w gap hw hgap => ?_⟩
  case overBudget =>
    refine ⟨_, ?_, State.reject_effect _ _⟩
    rw [step_eq_outcome, (h.fetch_window hkind).trans (State.attempt_of_overBudget rfl hover)]
    rfl
  case weak =>
    refine ⟨_, ?_, State.reject_effect _ _⟩
    rw [step_eq_outcome, (h.fetch_window hkind).trans (State.attempt_of_tooWeak rfl hwithin hweak)]
    rfl
  · exact ⟨errorCount_sliceWindow hw hgap, frameLen_eq_ite_lt 16, tooWeak_iff hw hgap 1275 .short,
      tooWeak_iff hw hgap 1275 .long⟩

end Sys2Proof.Machine

/-! Phase correction (41_preamble R188), pair by pair: the bit decided on a pair, as corrected so far, scales one sample of
the next pair. -/

namespace Sys2Proof.Machine

/-! ### A scaled sample -/

/-- No magnitude wraps when it is scaled. -/
theorem scaleEntry_toNat (one : Bool) {x : BitVec 17} (h : x.toNat ≤ 65167) :
    (scaleEntry one x).toNat = if one then x.toNat * 5 / 4 else x.toNat * 4 / 5 := by
  rw [scaleEntry, BitVec.toNat_ofNat, Nat.mod_eq_of_lt]
  split <;> omega

theorem scaleEntry_le (one : Bool) {x : BitVec 17} (h : x.toNat ≤ 65167) : (scaleEntry one x).toNat ≤ 81458 := by
  rw [scaleEntry_toNat one h]
  split <;> omega

/-! ### A corrected pair -/

/-- The pair (c, d) after a bit that is a 1 or not: its target sample is scaled (41_preamble R188). -/
def correctedPair (target : Config.PhaseTarget) (one : Bool) (c d : BitVec 17) : BitVec 17 × BitVec 17 :=
  match target with
  | .high => (c, scaleEntry one d)
  | .low => (scaleEntry one c, d)

theorem correctedPair_le (target : Config.PhaseTarget) (one : Bool) {c d : BitVec 17} (hc : c.toNat ≤ 65167)
    (hd : d.toNat ≤ 65167) :
    (correctedPair target one c d).1.toNat ≤ 81458 ∧ (correctedPair target one c d).2.toNat ≤ 81458 := by
  have hc' := scaleEntry_le one hc
  have hd' := scaleEntry_le one hd
  cases target <;> constructor <;> simp only [correctedPair] <;> omega

/-- Correction goes on from the corrected next pair. -/
theorem phasePairs_cons (target : Config.PhaseTarget) (a b c d : BitVec 17) (rest : List (BitVec 17)) :
    phasePairs target a b (c :: d :: rest) =
      a :: b :: phasePairs target (correctedPair target (decide (b < a)) c d).1
        (correctedPair target (decide (b < a)) c d).2 rest := by
  cases target <;> rfl

/-- The current pair stands as it is. -/
theorem phasePairs_head (target : Config.PhaseTarget) (a b : BitVec 17) :
    ∀ rest, (phasePairs target a b rest)[0]? = some a ∧ (phasePairs target a b rest)[1]? = some b
  | [] => ⟨rfl, rfl⟩
  | [_] => ⟨rfl, rfl⟩
  | c :: d :: rest => by rw [phasePairs_cons]; exact ⟨rfl, rfl⟩

theorem phasePairs_length (target : Config.PhaseTarget) (a b : BitVec 17) :
    ∀ rest, (phasePairs target a b rest).length = rest.length + 2
  | [] => rfl
  | [_] => rfl
  | c :: d :: rest => by
    rw [phasePairs_cons, List.length_cons, List.length_cons, phasePairs_length target _ _ rest]
    rfl

/-- No entry wraps or grows past a scaled magnitude: an entry is scaled at most once. -/
theorem phasePairs_le (target : Config.PhaseTarget) {a b : BitVec 17} (ha : a.toNat ≤ 81458) (hb : b.toNat ≤ 81458) :
    ∀ {rest : List (BitVec 17)}, (∀ x ∈ rest, x.toNat ≤ 65167) → ∀ x ∈ phasePairs target a b rest, x.toNat ≤ 81458
  | [], _ => by simp [phasePairs, ha, hb]
  | [c], h => by
    have hc : c.toNat ≤ 65167 := h c (by simp)
    simp only [phasePairs, List.forall_mem_cons, List.not_mem_nil, false_imp_iff, implies_true, and_true]
    omega
  | c :: d :: rest, h => by
    rw [List.forall_mem_cons, List.forall_mem_cons] at h
    obtain ⟨hc, hd, hrest⟩ := h
    obtain ⟨hc', hd'⟩ := correctedPair_le target (decide (b < a)) hc hd
    rw [phasePairs_cons, List.forall_mem_cons, List.forall_mem_cons]
    exact ⟨ha, hb, phasePairs_le target hc' hd' hrest⟩

/-- Pair k + 1 is corrected by the bit of pair k as it stands in the result. -/
theorem phasePairs_getElem? (target : Config.PhaseTarget) {a b : BitVec 17} {rest : List (BitVec 17)} {k : Nat}
    {lo hi c d : BitVec 17} (hlo : (phasePairs target a b rest)[2 * k]? = some lo)
    (hhi : (phasePairs target a b rest)[2 * k + 1]? = some hi) (hc : rest[2 * k]? = some c)
    (hd : rest[2 * k + 1]? = some d) :
    (phasePairs target a b rest)[2 * k + 2]? = some (correctedPair target (decide (hi < lo)) c d).1 ∧
      (phasePairs target a b rest)[2 * k + 3]? = some (correctedPair target (decide (hi < lo)) c d).2 := by
  match rest, hc, hd with
  | c' :: d' :: rest, hc, hd =>
    rw [phasePairs_cons] at hlo hhi ⊢
    cases k with
    | zero =>
      cases hlo; cases hhi; cases hc; cases hd
      exact phasePairs_head target _ _ rest
    | succ k => exact phasePairs_getElem? target hlo hhi hc hd

/-! ### The window -/

/-- A window is its 16 preamble samples, the first pair, and the pairs that correction may scale. -/
theorem exists_preamble_append {w : List (BitVec 17)} (hw : w.length = 240) :
    ∃ (front : List (BitVec 17)) (a b : BitVec 17) (rest : List (BitVec 17)),
      front.length = 16 ∧ rest.length = 222 ∧ w = front ++ a :: b :: rest := by
  have hfront : (w.take 16).length = 16 := by rw [List.length_take, hw]; rfl
  have hdata : (w.drop 16).length = 224 := by rw [List.length_drop, hw]
  match hsplit : w.drop 16, hdata with
  | a :: b :: rest, hdata =>
    exact ⟨w.take 16, a, b, rest, hfront, by simpa using hdata, by rw [← hsplit, List.take_append_drop]⟩

theorem phaseCorrect_append (target : Config.PhaseTarget) {front : List (BitVec 17)} (h : front.length = 16)
    (a b : BitVec 17) (rest : List (BitVec 17)) :
    phaseCorrect target (front ++ a :: b :: rest) = front ++ phasePairs target a b rest := by
  rw [phaseCorrect, List.take_left' h, List.drop_left' h]
  rfl

/-- Settles O47: behind the preamble the window is a list of pairs, and correction treats each next pair by the bit of the
pair before it. -/
theorem phaseCorrectionScalesTheNextPair : Obligations.PhaseCorrectionScalesTheNextPair := by
  rintro target w v hw hle rfl
  obtain ⟨front, a, b, rest, hfront, hrest, rfl⟩ := exists_preamble_append hw
  have hbehind (l : List (BitVec 17)) (i : Nat) : (front ++ l)[16 + i]? = l[i]? := by
    rw [List.getElem?_append_right (by omega), hfront, Nat.add_sub_cancel_left]
  rw [phaseCorrect_append target hfront]
  refine ⟨?length, ?bound, ?kept, ?scaled⟩
  case length => rw [List.length_append, hfront, phasePairs_length, hrest]
  case bound =>
    rw [List.forall_mem_append, List.forall_mem_cons, List.forall_mem_cons] at hle
    obtain ⟨hfrontLe, ha, hb, hrestLe⟩ := hle
    rw [List.forall_mem_append]
    exact ⟨fun x hx => (hfrontLe x hx).trans (by decide),
      phasePairs_le target (ha.trans (by decide)) (hb.trans (by decide)) hrestLe⟩
  case kept =>
    intro x hx
    obtain ⟨hfirst, hsecond⟩ := phasePairs_head target a b rest
    rcases Nat.lt_or_ge x 16 with hpreamble | hdata
    · rw [List.getElem?_append_left (by omega), List.getElem?_append_left (by omega)]
    · obtain rfl | rfl : x = 16 + 0 ∨ x = 16 + 1 := by omega
      · rw [hbehind, hbehind, hfirst]; rfl
      · rw [hbehind, hbehind, hsecond]; rfl
  case scaled =>
    intro k hk lo hi c d hlo hhi hc hd
    have hcLe : c.toNat ≤ 65167 := hle c (List.mem_of_getElem? hc)
    have hdLe : d.toNat ≤ 65167 := hle d (List.mem_of_getElem? hd)
    rw [show 17 + 2 * k = 16 + (2 * k + 1) by omega, hbehind] at hhi
    rw [show 18 + 2 * k = 16 + (2 * k + 2) by omega, hbehind] at hc ⊢
    rw [show 19 + 2 * k = 16 + (2 * k + 3) by omega, hbehind] at hd ⊢
    rw [hbehind] at hlo
    obtain ⟨hfirst, hsecond⟩ := phasePairs_getElem? target hlo hhi hc hd
    constructor
    · rintro rfl
      exact ⟨hfirst, _, hsecond, by simp [correctedPair, scaleEntry_toNat _ hdLe]⟩
    · rintro rfl
      exact ⟨hsecond, _, hfirst, by simp [correctedPair, scaleEntry_toNat _ hcLe]⟩

end Sys2Proof.Machine

/-! The single- and double-bit corrections (43_checksum R224, R225): a flip changes the syndrome by the syndrome of its
position, so that the table lookups of the model find what the searches find (log 13). -/

namespace Sys2Proof.Machine

/-! ### The syndrome is linear -/

theorem crcFrom_xor {n : Nat} (f g : BitVec n) (ts : List U24) (k : Nat) :
    crcFrom (f ^^^ g) ts k = crcFrom f ts k ^^^ crcFrom g ts k := by
  induction ts generalizing k with
  | nil => simp [crcFrom]
  | cons t ts ih =>
    have hhead : (if (f ^^^ g).getMsbD k then t else 0#24) =
        (if f.getMsbD k then t else 0#24) ^^^ (if g.getMsbD k then t else 0#24) := by
      rw [BitVec.getMsbD_xor]
      cases f.getMsbD k <;> cases g.getMsbD k <;> simp
    rw [crcFrom, crcFrom, crcFrom, ih, hhead]
    ac_rfl

theorem syndrome_xor {n : Nat} (f g : BitVec n) : syndrome (f ^^^ g) = syndrome f ^^^ syndrome g := by
  have htx : txField (f ^^^ g) = txField f ^^^ txField g := BitVec.extractLsb'_xor
  rw [syndrome, syndrome, syndrome, checksum, checksum, checksum, crcFrom_xor, htx]
  ac_rfl

/-- A flip lays the frame of that one bit over the frame. -/
theorem flipBit_eq_xor {n : Nat} (f : BitVec n) (p : Nat) : flipBit f p = f ^^^ flipBit 0#n p := by
  rw [flipBit, flipBit, BitVec.zero_xor]

/-- 43_checksum R225: a flip changes the syndrome by the syndrome of its position. -/
theorem syndrome_flipBit {n : Nat} (f : BitVec n) (p : Nat) :
    syndrome (flipBit f p) = syndrome f ^^^ syndrome (flipBit 0#n p) := by
  rw [flipBit_eq_xor, syndrome_xor]

theorem verifies_iff_syndrome {n : Nat} (f : BitVec n) : checksum f = txField f ↔ syndrome f = 0#24 :=
  BitVec.xor_eq_zero_iff.symm

/-- A flip makes a frame verify exactly when its position has the frame's syndrome. -/
theorem verifies_flipBit_iff {n : Nat} (f : BitVec n) (p : Nat) :
    checksum (flipBit f p) = txField (flipBit f p) ↔ syndrome (flipBit 0#n p) = syndrome f := by
  rw [verifies_iff_syndrome, syndrome_flipBit, BitVec.xor_eq_zero_iff, eq_comm]

/-! ### The table of syndromes -/

/-- The frame of one bit has that bit's table entry as its checksum. -/
theorem crcFrom_oneBit {n p : Nat} (hp : p < n) (ts : List U24) (k : Nat) :
    crcFrom (flipBit 0#n p) ts k = if k ≤ p then ts.getD (p - k) 0 else 0 := by
  induction ts generalizing k with
  | nil => simp [crcFrom]
  | cons t ts ih =>
    rw [crcFrom, ih, flipBit_getMsbD _ hp]
    rcases Nat.lt_trichotomy k p with hlt | rfl | hgt
    · rw [if_pos (by omega : k + 1 ≤ p), if_pos (by omega : k ≤ p), show p - k = (p - (k + 1)) + 1 by omega]
      simp [Nat.ne_of_lt hlt]
    · simp
    · rw [if_neg (by omega : ¬k + 1 ≤ p), if_neg (by omega : ¬k ≤ p)]
      simp [Nat.ne_of_gt hgt]

theorem checksum_oneBit {n p : Nat} (hp : p < n) :
    checksum (flipBit 0#n p) = crcTab.getD (p + (112 - n)) 0 := by
  rw [checksum, crcFrom_oneBit hp, if_pos (Nat.zero_le p), Nat.sub_zero, crcTab_drop_getD]

theorem txField_oneBit {n p : Nat} (hp : p < n) :
    txField (flipBit 0#n p) = BitVec.ofNat 24 (2 ^ (n - 1 - p)) := by
  apply BitVec.eq_of_toNat_eq
  rw [txField_toNat, flipBit, BitVec.zero_xor, BitVec.toNat_ofNat, BitVec.toNat_ofNat,
    Nat.mod_eq_of_lt (Nat.pow_lt_pow_right (by decide) (by omega) : 2 ^ (n - 1 - p) < 2 ^ n)]

/-- A flip outside the checksum field leaves that field. -/
theorem txField_oneBit_of_lt {n p : Nat} (hp : p < n - 24) : txField (flipBit 0#n p) = 0#24 := by
  have hdvd : 2 ^ 24 ∣ 2 ^ (n - 1 - p) := Nat.pow_dvd_pow 2 (by omega)
  rw [txField_oneBit (by omega)]
  exact BitVec.eq_of_toNat_eq (by rw [BitVec.toNat_ofNat, Nat.mod_eq_zero_of_dvd hdvd]; rfl)

/-- The table of the lookups lists the syndrome of each position (43_checksum R225). -/
theorem flipSyndromes_eq_map {n : Nat} (h24 : 24 ≤ n) (h112 : n ≤ 112) :
    flipSyndromes n = (List.range' 0 n).map (fun p => syndrome (flipBit 0#n p)) := by
  refine List.ext_getElem (by simp [flipSyndromes_length h24 h112]) fun p hp _ => ?_
  rw [flipSyndromes_length h24 h112] at hp
  have hlength : ((crcTab.drop (112 - n)).take (n - 24)).length = n - 24 := by simp; omega
  simp only [flipSyndromes, List.getElem_map, List.getElem_range', Nat.zero_add, Nat.one_mul, syndrome]
  rw [checksum_oneBit hp]
  rcases Nat.lt_or_ge p (n - 24) with hbody | hfield
  · rw [List.getElem_append_left (by omega), txField_oneBit_of_lt hbody, BitVec.xor_zero, ← crcTab_drop_getD,
      List.getElem_take, List.getD_eq_getElem]
  · rw [List.getElem_append_right (by omega), txField_oneBit hp, crcTab_getD_of_ge (by omega)]
    simp only [hlength, List.getElem_map, List.getElem_range]
    rw [show 23 - (p - (n - 24)) = n - 1 - p by omega]
    exact (BitVec.zero_xor).symm

/-! ### The lookups are the searches -/

/-- A lookup among the syndromes of positions p, p + 1, … is FIX1's search from p on. -/
theorem firstEqual_eq_fix1Search {n : Nat} (f : BitVec n) (k p : Nat) :
    firstEqual (syndrome f) ((List.range' p k).map (fun q => syndrome (flipBit 0#n q))) p = fix1Search f k p := by
  induction k generalizing p with
  | zero => rfl
  | succ k ih =>
    rw [List.range'_succ, List.map_cons, firstEqual, fix1Search, ih]
    simp only [verifies_flipBit_iff]

theorem fix1_eq_search {n : Nat} (h24 : 24 ≤ n) (h112 : n ≤ 112) (f : BitVec n) : fix1 f = fix1Search f n 0 := by
  rw [fix1, flipSyndromes_eq_map h24 h112, firstEqual_eq_fix1Search]

/-- After a first flip, the second flip is searched as a single one of the flipped frame. -/
theorem fix2SearchSecond_eq {n : Nat} (f : BitVec n) (p1 k p2 : Nat) :
    fix2SearchSecond f p1 k p2 = (fix1Search (flipBit f p1) k p2).map (fun q => (p1, q)) := by
  induction k generalizing p2 with
  | zero => rfl
  | succ k ih =>
    rw [fix2SearchSecond, fix1Search, ih]
    split <;> rfl

theorem firstPairEqual_eq_fix2Search {n : Nat} (f : BitVec n) (k p : Nat) :
    firstPairEqual (syndrome f) ((List.range' p k).map (fun q => syndrome (flipBit 0#n q))) p = fix2Search f k p := by
  induction k generalizing p with
  | zero => rfl
  | succ k ih =>
    rw [List.range'_succ, List.map_cons, firstPairEqual, fix2Search, ih, BitVec.xor_comm, ← syndrome_flipBit,
      firstEqual_eq_fix1Search, fix2SearchSecond_eq]
    cases fix1Search (flipBit f p) k (p + 1) <;> rfl

theorem fix2_eq_search {n : Nat} (h24 : 24 ≤ n) (h112 : n ≤ 112) (f : BitVec n) : fix2 f = fix2Search f n 0 := by
  rw [fix2, flipSyndromes_eq_map h24 h112, firstPairEqual_eq_fix2Search]

/-- Settles O27: the lookup's table lists the syndrome of each position, and a flip makes a frame verify exactly when its
position has the frame's syndrome. -/
theorem fix1IsTheSearch : Obligations.Fix1IsTheSearch :=
  ⟨fix1_eq_search (by decide) (by decide), fix1_eq_search (by decide) (by decide)⟩

/-- Settles O28: the second flip of a pair is FIX1 of the frame that the first one left. -/
theorem fix2IsTheSearch : Obligations.Fix2IsTheSearch := fix2_eq_search (by decide) (by decide)

end Sys2Proof.Machine

/-! The ICAO cache (43_checksum R230 to R233) and its commands (47_commands R372, R373). -/

namespace Sys2Proof.Machine

/-! ### HASH (43_checksum R231) -/

/-- The exclusive or of a round of HASH, on numbers. -/
theorem hashMix_toNat (a : U32) : ((a >>> 16) ^^^ a).toNat = a.toNat / 2 ^ 16 ^^^ a.toNat := by
  rw [BitVec.toNat_xor, BitVec.toNat_ushiftRight, Nat.shiftRight_eq_div_pow]

theorem cacheHash_eq {a : U32} {mix : Nat → Nat} {a1 a2 : Nat} (hmix : ∀ x, mix x = x / 2 ^ 16 ^^^ x)
    (h1 : a1 = mix a.toNat * 0x045D9F3B % 2 ^ 32) (h2 : a2 = mix a1 * 0x045D9F3B % 2 ^ 32) :
    cacheHash a = mix a2 % 1024 := by
  have hround (x : U32) : (((x >>> 16) ^^^ x) * 0x045D9F3B#32).toNat = mix x.toNat * 0x045D9F3B % 2 ^ 32 := by
    rw [BitVec.toNat_mul, hashMix_toNat, hmix]
    rfl
  rw [h2, h1, ← hround, ← hround, hmix, ← hashMix_toNat]
  exact (BitVec.toNat_and ..).trans (Nat.and_two_pow_sub_one_eq_mod _ 10)

/-! ### CACHE_INSERT_INT and CACHE_FOUND -/

theorem cacheSlot_cacheInsert (s : State) (a : U32) (t : U64) (h : Nat) :
    cacheSlot (s.cacheInsert a t).cache h = if h = cacheHash a then ⟨a, t⟩ else cacheSlot s.cache h := by
  by_cases hempty : a = 0#32 ∧ t = 0#64
  · have hcache : (s.cacheInsert a t).cache = Sparse.drop s.cache (cacheHash a) := if_pos hempty
    obtain ⟨rfl, rfl⟩ := hempty
    rw [cacheSlot, cacheSlot, hcache]
    split
    next heq => rw [heq, Sparse.lookup_drop_same]; rfl
    next hne => rw [Sparse.lookup_drop_other _ hne]
  · have hcache : (s.cacheInsert a t).cache = Sparse.put s.cache (cacheHash a) ⟨a, t⟩ := if_neg hempty
    rw [cacheSlot, cacheSlot, hcache]
    split
    next heq => rw [heq, Sparse.lookup_put_same]; rfl
    next hne => rw [Sparse.lookup_put_other _ _ hne]

theorem State.cacheFound_iff (s : State) (a : U32) (t : U64) :
    s.cacheFound a t = true ↔
      a ≠ 0 ∧ (cacheSlot s.cache (cacheHash a)).address = a ∧
        (cacheSlot s.cache (cacheHash a)).lastSeen.toNat ≤ t.toNat ∧
        t.toNat - (cacheSlot s.cache (cacheHash a)).lastSeen.toNat ≤ 60000 := by
  simp [State.cacheFound, and_assoc]

/-! ### The commands -/

theorem addressOk_eq_false {a : U64} (ha : 2 ^ 24 ≤ a.toNat) : addressOk a = false := by
  rw [Bool.eq_false_iff, ne_eq, addressOk_iff]
  omega

theorem execCacheInsert_badAddress {a b : U64} {s : State} (hidle : s.status.busy = false) (ha : 2 ^ 24 ≤ a.toNat) :
    exec (.cacheInsert a b) s = .next (failed s .errBadValue 0x13) := by
  change whenIdle s _ = _
  simp only [whenIdle, hidle, addressOk_eq_false ha]
  rfl

theorem execCacheInsert_inserts {a b : U64} {s : State} (hidle : s.status.busy = false) (ha : a.toNat < 2 ^ 24) :
    exec (.cacheInsert a b) s = .next ((s.cacheInsert (BitVec.ofNat 32 a.toNat) b).respond .ok 0 none) := by
  change whenIdle s _ = _
  simp only [whenIdle, hidle, (addressOk_iff a).2 ha, addressOf_setWidth a ha]
  rfl

theorem execCacheQuery_badAddress {a b : U64} {s : State} (ha : 2 ^ 24 ≤ a.toNat) :
    exec (.cacheQuery a b) s = .next (failed s .errBadValue 0x13) := by
  change execCacheQuery a b s = _
  rw [execCacheQuery, addressOk_eq_false ha]
  rfl

/-- CACHE_QUERY of a 24-bit address answers CACHE_FOUND (43_checksum R232), on numbers. -/
theorem execCacheQuery_answers {a b : U64} {s : State} (ha : a.toNat < 2 ^ 24) {e : CacheEntry}
    (he : e = cacheSlot s.cache (cacheHash (BitVec.ofNat 32 a.toNat))) :
    exec (.cacheQuery a b) s = .next
      (answered s .ok
        (if a ≠ 0 ∧ e.address.toNat = a.toNat ∧ e.lastSeen.toNat ≤ b.toNat ∧ b.toNat - e.lastSeen.toNat ≤ 60000
          then 1 else 0)
        none) := by
  have htoNat : (BitVec.ofNat 32 a.toNat).toNat = a.toNat := by rw [BitVec.toNat_ofNat]; omega
  have hzero : BitVec.ofNat 32 a.toNat ≠ 0 ↔ a ≠ 0 := by
    rw [ne_eq, ne_eq, ← BitVec.toNat_inj, ← BitVec.toNat_inj, htoNat]
    rfl
  have haddress : e.address = BitVec.ofNat 32 a.toNat ↔ e.address.toNat = a.toNat := by
    rw [← BitVec.toNat_inj, htoNat]
  change execCacheQuery a b s = _
  simp only [execCacheQuery, (addressOk_iff a).2 ha, addressOf_setWidth a ha, State.cacheFound_iff, ← he, hzero,
    haddress]
  rfl

/-- A query of an address whose slot holds it answers whether the entry is fresh (43_checksum R232). -/
theorem execCacheQuery_of_slot {a b q : U64} {s : State} (ha : a.toNat < 2 ^ 24)
    (hslot : cacheSlot s.cache (cacheHash (BitVec.ofNat 32 a.toNat)) = ⟨BitVec.ofNat 32 a.toNat, b⟩) :
    exec (.cacheQuery a q) s = .next
      (answered s .ok (if a ≠ 0 ∧ b.toNat ≤ q.toNat ∧ q.toNat ≤ b.toNat + 60000 then 1 else 0) none) := by
  have htoNat : (BitVec.ofNat 32 a.toNat).toNat = a.toNat := by rw [BitVec.toNat_ofNat]; omega
  have hfresh : q.toNat - b.toNat ≤ 60000 ↔ q.toNat ≤ b.toNat + 60000 := Nat.sub_le_iff_le_add'
  rw [execCacheQuery_answers ha hslot.symm]
  simp only [htoNat, true_and, hfresh]

/-- Settles O23: the operand check, and CACHE_FOUND on numbers. -/
theorem cacheQueryAnswersFound : Obligations.CacheQueryAnswersFound := by
  refine ⟨?found, fun a b s => ⟨execCacheQuery_badAddress, fun ha e he => execCacheQuery_answers ha he⟩⟩
  rintro a b s _ rfl
  exact s.cacheFound_iff a b

/-- Settles O22: CACHE_INSERT_INT writes the slot of the hash, so that a query of the same address reads the new entry. -/
theorem cacheInsertWritesItsSlot : Obligations.CacheInsertWritesItsSlot := by
  refine ⟨fun a mix a1 a2 hmix h1 h2 => cacheHash_eq hmix h1 h2, fun a b s => ⟨rfl, cacheSlot_cacheInsert s a b⟩,
    fun a b s hidle => ⟨execCacheInsert_badAddress hidle, fun ha => ?_⟩⟩
  refine ⟨_, execCacheInsert_inserts hidle ha, rfl, cacheSlot_cacheInsert s _ b, fun _ => rfl,
    fun q => execCacheQuery_of_slot ha ?_⟩
  exact (cacheSlot_cacheInsert s _ b _).trans (if_pos rfl)

end Sys2Proof.Machine

/-! The verification of received frames (43_checksum R222, R223, R226, R228): which frames are rejected and why, which are
accepted as corrected, and which of them write the ICAO cache. -/

namespace Sys2Proof.Machine

/-! ### Rejections -/

/-- A rejection ends the attempt with its effect (41_preamble R186). -/
theorem State.reject_rejects (s : State) (c : Cnt) :
    ∃ t, Host.Outcome.next (s.reject c) = (.next t : Result) ∧ RejectEffect s t c :=
  ⟨_, rfl, s.reject_effect c⟩

/-- A reply whose recovered address is not known is rejected (43_checksum R226). -/
theorem State.verifyAp_rejects {s : State} {f : Frame} {p : Payload}
    (hunknown : s.cacheFound (f.syndrome.setWidth 32) s.scan.now = false) :
    ∃ t, Host.Outcome.next (s.verifyAp f p) = (.next t : Result) ∧ RejectEffect s t .apUnknown := by
  rcases s.verifyAp_cases f p with ⟨hfound, _⟩ | ⟨_, h⟩
  · rw [hunknown] at hfound; cases hfound
  · exact h ▸ s.reject_rejects .apUnknown

/-- Settles O30: each format runs `verifyAp` on its own frame. -/
theorem unknownAddressesAreRejected : Obligations.UnknownAddressesAreRejected :=
  ⟨fun _ _ => State.verifyAp_rejects (f := .short _), fun _ _ => State.verifyAp_rejects (f := .short _),
    fun _ _ => State.verifyAp_rejects (f := .short _), fun _ _ => State.verifyAp_rejects (f := .long _),
    fun _ _ => State.verifyAp_rejects (f := .long _), fun _ _ => State.verifyAp_rejects (f := .long _),
    fun _ _ => State.verifyAp_rejects (f := .long _)⟩

/-- Settles O31: the meaning of each of these rows is the rejection, whatever its bits are. -/
theorem unsupportedFormatsAreRejected : Obligations.UnsupportedFormatsAreRejected := by
  intro s
  have hrejects := s.reject_rejects .dfUnsupported
  exact ⟨fun _ => hrejects, fun _ => hrejects, fun _ => hrejects, fun _ => hrejects, fun _ => hrejects,
    fun _ => hrejects, fun _ => hrejects, fun _ => hrejects, fun _ => hrejects, fun _ => hrejects, fun _ => hrejects,
    fun _ => hrejects, fun _ => hrejects, fun _ => hrejects, fun _ => hrejects, fun _ => hrejects⟩

/-! ### All-call replies -/

/-- CA and AA of a DF11 frame (30_encoding R126). -/
theorem AllCall.fields_shortFrame (df : BitVec 5) (f : AllCall) :
    icao (shortFrame df f.bits) 6 3 = f.ca ∧ icao (shortFrame df f.bits) 9 24 = f.aa :=
  ⟨congrArg AllCall.ca (AllCall.ofFrame_shortFrame df f), congrArg AllCall.aa (AllCall.ofFrame_shortFrame df f)⟩

/-- Settles O32: the cases of the verification, with the lookup read as the search. -/
theorem allCallVerification : Obligations.AllCallVerification := by
  rintro f s _ rfl
  obtain ⟨hca, haa⟩ := AllCall.fields_shortFrame 11 f
  rw [← fix1_eq_search (by decide) (by decide)]
  rcases execDf11AllCall_cases f s _ rfl with ⟨hcrc, hrun⟩ | ⟨hcrc, p, hfix, hrun⟩ | ⟨hcrc, hfix, hrun⟩
  · refine ⟨fun _ => ⟨_, hrun, ?_⟩, fun _ hbad => absurd hcrc hbad, fun hbad => absurd hcrc hbad⟩
    rw [State.acceptAllCall, hca, haa]
    exact State.accept_effect _ _
  · refine ⟨fun hgood => absurd hgood hcrc, fun q _ hq => ?_, fun _ hnone => ?_⟩
    · obtain rfl : p = q := Option.some.inj (hfix.symm.trans hq)
      exact ⟨_, hrun, State.accept_effect _ _⟩
    · rw [hfix] at hnone; cases hnone
  · refine ⟨fun hgood => absurd hgood hcrc, fun q _ hq => ?_, fun _ _ => ⟨_, hrun, s.reject_effect _⟩⟩
    rw [hfix] at hq; cases hq

/-! ### Extended squitters -/

/-- CA and AA of a DF17 frame (30_encoding R127). -/
theorem ExtSquitter.fields_longFrame (df : BitVec 5) (f : ExtSquitter) :
    icao (longFrame df f.bits) 6 3 = f.ca ∧ icao (longFrame df f.bits) 9 24 = f.aa :=
  ⟨congrArg ExtSquitter.ca (ExtSquitter.ofFrame_longFrame df f),
    congrArg ExtSquitter.aa (ExtSquitter.ofFrame_longFrame df f)⟩

/-- The first field keeps the bits of the frame it covers. -/
theorem icao_getMsbD {n w : Nat} (f : BitVec n) (hw : w ≤ n) (k : Nat) :
    (icao f 1 w).getMsbD k = (decide (k < w) && f.getMsbD k) := by
  rw [icao, BitVec.getMsbD, BitVec.getMsbD, BitVec.getLsbD_extractLsb']
  by_cases hk : k < w
  · simp only [hk, show k < n by omega, show w - 1 - k < w by omega, decide_true, Bool.true_and]
    congr 1
    omega
  · simp [hk]

/-- A flip of the frame is, in the DF field, the flip that `unflipDf` undoes (43_checksum R227). -/
theorem icao_flipBit_df {n p : Nat} (f : BitVec n) (h5 : 5 ≤ n) (hp : p < n) (h128 : p < 128) :
    icao (flipBit f p) 1 5 = unflipDf (icao f 1 5) (BitVec.ofNat 7 p) := by
  have htoNat : (BitVec.ofNat 7 p).toNat = p := by rw [BitVec.toNat_ofNat]; omega
  rw [unflipDf, htoNat]
  apply BitVec.eq_of_getMsbD_eq
  intro k hk
  rw [icao_getMsbD _ h5, flipBit_getMsbD f hp, decide_eq_true hk, Bool.true_and]
  by_cases hin : p < 5
  · rw [if_pos hin, flipBit_getMsbD _ hin, icao_getMsbD f h5, decide_eq_true hk, Bool.true_and]
  · rw [if_neg hin, icao_getMsbD f h5, decide_eq_true hk, Bool.true_and, if_neg (by omega)]

/-- Undoing a flip lays a mask over the DF field. -/
theorem unflipDf_eq_xor (d : BitVec 5) (p : BitVec 7) : unflipDf d p = d ^^^ unflipDf 0 p := by
  unfold unflipDf
  split
  · exact flipBit_eq_xor d _
  · exact BitVec.xor_zero.symm

theorem unflipDf_comm (d : BitVec 5) (p q : BitVec 7) : unflipDf (unflipDf d p) q = unflipDf (unflipDf d q) p := by
  rw [unflipDf_eq_xor (unflipDf d p) q, unflipDf_eq_xor (unflipDf d q) p, unflipDf_eq_xor d p, unflipDf_eq_xor d q]
  ac_rfl

theorem unflipDf_unflipDf (d : BitVec 5) (p : BitVec 7) : unflipDf (unflipDf d p) p = d := by
  rw [unflipDf_eq_xor (unflipDf d p) p, unflipDf_eq_xor d p, BitVec.xor_assoc, BitVec.xor_self, BitVec.xor_zero]

/-! The head of a DF17 frame is well-formed after every correction inside the frame: undoing the flips gives the received
DF, 17, again (43_checksum R227). -/

theorem squitterHead_wf_none {f : BitVec 112} (hdf : icao f 1 5 = 17#5) :
    (SquitterHead.ofFrame .none f).wf = true := by
  simp [SquitterHead.wf, SquitterHead.ofFrame, SquitterHead.receivedDf, BitFix.inFrame, hdf]

theorem squitterHead_wf_single {f : BitVec 112} {p : Nat} (hdf : icao f 1 5 = 17#5) (hp : p < 112) :
    (SquitterHead.ofFrame (.single (BitVec.ofNat 7 p)) (flipBit f p)).wf = true := by
  have hreceived : unflipDf (icao (flipBit f p) 1 5) (BitVec.ofNat 7 p) = 17#5 := by
    rw [icao_flipBit_df f (by decide) hp (by omega), unflipDf_unflipDf, hdf]
  have hin : (BitVec.ofNat 7 p).toNat < 112 := by rw [BitVec.toNat_ofNat]; omega
  simpa [SquitterHead.wf, SquitterHead.ofFrame, SquitterHead.receivedDf, BitFix.inFrame, hreceived] using hin

theorem squitterHead_wf_double {f : BitVec 112} {p q : Nat} (hdf : icao f 1 5 = 17#5) (hpq : p < q) (hq : q < 112) :
    (SquitterHead.ofFrame (.double (BitVec.ofNat 7 p) (BitVec.ofNat 7 q)) (flipBit (flipBit f p) q)).wf = true := by
  have hreceived : unflipDf (unflipDf (icao (flipBit (flipBit f p) q) 1 5) (BitVec.ofNat 7 p)) (BitVec.ofNat 7 q) =
      17#5 := by
    rw [icao_flipBit_df _ (by decide) hq (by omega), icao_flipBit_df f (by decide) (by omega) (by omega),
      unflipDf_comm, unflipDf_unflipDf, unflipDf_unflipDf, hdf]
  have hin : (BitVec.ofNat 7 p).toNat < (BitVec.ofNat 7 q).toNat ∧ (BitVec.ofNat 7 q).toNat < 112 := by
    rw [BitVec.toNat_ofNat, BitVec.toNat_ofNat]
    omega
  simpa [SquitterHead.wf, SquitterHead.ofFrame, SquitterHead.receivedDf, BitFix.inFrame, hreceived] using hin

/-- A frame with a well-formed head runs as the ME message it decodes to (log 14). -/
theorem decodeSquitter_runs {s : State} {fix : BitFix} {f : BitVec 112} {r : Result} (hrun : r = decodeSquitter s fix f)
    (hwf : (SquitterHead.ofFrame fix f).wf = true) : ∃ i, decode (.squitter fix f) = .ok i ∧ r = exec i s :=
  ⟨_, (decode_squitter_eq_ok_iff fix f _).2 ⟨hwf, rfl⟩, hrun.trans (exec_decodeMe _ f s).symm⟩

/-- Settles O33: the cases of the verification, with the lookups read as the searches; each flip lies in the frame, so that
the corrected frame decodes. -/
theorem squitterDispatch : Obligations.SquitterDispatch := by
  rintro f s _ rfl
  have hdf : icao (longFrame 17 f.bits) 1 5 = 17#5 := icao_longFrame_df 17 f.bits
  obtain ⟨_, haa⟩ := ExtSquitter.fields_longFrame 17 f
  have haggrBit : s.regs.ctrl.getLsbD 0 = s.regs.aggr := rfl
  rw [← fix1_eq_search (by decide) (by decide), ← fix2_eq_search (by decide) (by decide), haggrBit]
  rcases execDf17ExtSquitter_cases f s _ rfl with ⟨hcrc, hrun⟩ | ⟨hcrc, p, hfix, hrun⟩ |
    ⟨hcrc, hfix, haggr, p, q, hfix2, hrun⟩ | ⟨hcrc, hfix, hnot, hrun⟩
  · refine ⟨fun _ => ?_, fun _ hbad => absurd hcrc hbad, fun _ _ hbad => absurd hcrc hbad, fun hbad => absurd hcrc hbad⟩
    rw [haa] at hrun
    exact decodeSquitter_runs hrun (squitterHead_wf_none hdf)
  · refine ⟨fun hgood => absurd hgood hcrc, fun p' _ hp' => ?_, fun _ _ _ hnone => ?_, fun _ hnone => ?_⟩
    · obtain rfl : p = p' := Option.some.inj (hfix.symm.trans hp')
      exact decodeSquitter_runs hrun (squitterHead_wf_single hdf (fix1_lt (by decide) (by decide) hfix))
    · rw [hfix] at hnone; cases hnone
    · rw [hfix] at hnone; cases hnone
  · refine ⟨fun hgood => absurd hgood hcrc, fun _ _ hsome => ?_, fun p' q' _ _ _ hpq' => ?_, fun _ _ hnot => ?_⟩
    · rw [hfix] at hsome; cases hsome
    · obtain ⟨rfl, rfl⟩ := Prod.mk.inj (Option.some.inj (hfix2.symm.trans hpq'))
      obtain ⟨hpq, hq⟩ := fix2_lt (by decide) (by decide) hfix2
      exact decodeSquitter_runs hrun (squitterHead_wf_double hdf hpq hq)
    · rw [haggr, hfix2] at hnot; simp at hnot
  · refine ⟨fun hgood => absurd hgood hcrc, fun _ _ hsome => ?_, fun p q _ _ haggr hpq => ?_,
      fun _ _ _ => ⟨_, hrun, s.reject_effect _⟩⟩
    · rw [hfix] at hsome; cases hsome
    · rw [haggr, hpq] at hnot; simp at hnot

end Sys2Proof.Machine

/-! Verified squitters and the writers of the ICAO cache (43_checksum R228, 44_decoder R250, R262). -/

namespace Sys2Proof.Machine

/-! ### TC and ST of every squitter (44_decoder R262) -/

/-- A payload has TC and ST. -/
def Payload.HasType (p : Payload) (tc : BitVec 5) (st : BitVec 3) : Prop := p.meType = some tc ∧ p.meSubtype = some st

theorem typePayload_hasType (tc : BitVec 5) (st : BitVec 3) : (typePayload tc st).HasType tc st := ⟨rfl, rfl⟩

theorem identPayload_hasType (tc : BitVec 5) (f : BitVec 112) :
    (identPayload tc (Identification.ofFrame f)).HasType tc (icao f 38 3) := ⟨rfl, rfl⟩

/-- ST is the top of the movement field. -/
theorem surfacePayload_hasType (tc : BitVec 5) (f : BitVec 112) :
    (surfacePayload tc (SurfacePosition.ofFrame f)).HasType tc (icao f 38 3) :=
  ⟨rfl, congrArg some (icao_icao f (p := 38) (m := 7) (a := 1) (w := 3) (by decide) (by decide) (by decide))⟩

/-- ST is the surveillance status and the single-antenna flag. -/
theorem gnssPayload_hasType (tc : BitVec 5) (f : BitVec 112) :
    (gnssPayload tc (AirbornePosition.ofFrame f)).HasType tc (icao f 38 3) :=
  ⟨rfl, congrArg some (icao_append_icao f (v := 2) (w := 1) rfl (by decide))⟩

theorem baroPayload_hasType (tc : BitVec 5) (f : BitVec 112) :
    (baroPayload tc (AirbornePosition.ofFrame f)).HasType tc (icao f 38 3) := gnssPayload_hasType tc f

theorem velocityGroundPayload_hasType (st : BitVec 3) (supersonic : Bool) (m : VelocityGround) :
    (velocityGroundPayload st supersonic m).HasType 19 st := by
  unfold velocityGroundPayload
  split <;> exact ⟨rfl, rfl⟩

theorem velocityAirPayload_hasType (st : BitVec 3) (supersonic : Bool) (m : VelocityAir) :
    (velocityAirPayload st supersonic m).HasType 19 st := ⟨rfl, rfl⟩

/-- r is the acceptance of the squitter f itself, with its own TC and ST. -/
def AcceptsSquitter (fix : BitFix) (f : BitVec 112) (s : State) (r : Result) : Prop :=
  ∃ p : Payload, r = .next (s.acceptSquitter (SquitterHead.ofFrame fix f) f p) ∧ p.HasType (icao f 33 5) (icao f 38 3)

/-- A row of the ME dispatch puts the frame together again. -/
theorem AcceptsSquitter.of_tc {fix : BitFix} {f : BitVec 112} {s : State} {tc : BitVec 5} {rest : BitVec 51}
    {p : Payload} (htc : (icao f 33 5).toNat = tc.toNat) (hrest : rest = icao f 38 51)
    (hp : p.HasType tc (icao f 38 3)) :
    AcceptsSquitter fix f s
      (.next (s.acceptSquitter (SquitterHead.ofFrame fix f) ((SquitterHead.ofFrame fix f).frame tc rest) p)) :=
  ⟨p, by rw [SquitterHead.frame_eq_of_tc htc hrest], BitVec.eq_of_toNat_eq htc ▸ hp⟩

/-- A row of the ST dispatch puts the frame together again. -/
theorem AcceptsSquitter.of_st {fix : BitFix} {f : BitVec 112} {s : State} {st : BitVec 3} {rest : BitVec 48}
    {p : Payload} (htc : (icao f 33 5).toNat = 19) (hst : (icao f 38 3).toNat = st.toNat) (hrest : rest = icao f 41 48)
    (hp : p.HasType 19 st) :
    AcceptsSquitter fix f s
      (.next (s.acceptSquitter (SquitterHead.ofFrame fix f) ((SquitterHead.ofFrame fix f).frame19 st rest) p)) :=
  have htc' : icao f 33 5 = 19#5 := BitVec.eq_of_toNat_eq htc
  ⟨p, by rw [SquitterHead.frame19_eq_of_st htc hst hrest], htc' ▸ BitVec.eq_of_toNat_eq hst ▸ hp⟩

theorem execSquitter19_acceptsSquitter (fix : BitFix) {f : BitVec 112} (s : State) (htc : (icao f 33 5).toNat = 19) :
    AcceptsSquitter fix f s (execSquitter19 (SquitterHead.ofFrame fix f) f s) := by
  have hlt : (icao f 38 3).toNat < 8 := (icao f 38 3).isLt
  unfold execSquitter19
  split
  case h_1 hst | h_6 hst | h_7 hst => exact .of_st htc hst rfl (typePayload_hasType _ _)
  case h_2 hst | h_3 hst => exact .of_st htc hst (VelocityGround.bits_ofFrame f) (velocityGroundPayload_hasType _ _ _)
  case h_4 hst | h_5 hst => exact .of_st htc hst (VelocityAir.bits_ofFrame f) (velocityAirPayload_hasType _ _ _)
  case h_8 =>
    have hst : (icao f 38 3).toNat = 7 := by grind
    exact .of_st htc hst rfl (typePayload_hasType _ _)

/-- Every ME message is accepted with the frame it came in and with its TC and ST (44_decoder R250, R262). -/
theorem execSquitter_acceptsSquitter (fix : BitFix) (f : BitVec 112) (s : State) :
    AcceptsSquitter fix f s (execSquitter (SquitterHead.ofFrame fix f) f s) := by
  have hlt : (icao f 33 5).toNat < 32 := (icao f 33 5).isLt
  unfold execSquitter
  split
  case h_1 htc | h_24 htc | h_25 htc | h_26 htc | h_27 htc | h_28 htc | h_29 htc | h_30 htc | h_31 htc =>
    exact .of_tc htc (OtherMe.bits_ofFrame f) (typePayload_hasType _ _)
  case h_2 htc | h_3 htc | h_4 htc | h_5 htc =>
    exact .of_tc htc (Identification.bits_ofFrame f) (identPayload_hasType _ f)
  case h_6 htc | h_7 htc | h_8 htc | h_9 htc =>
    exact .of_tc htc (SurfacePosition.bits_ofFrame f) (surfacePayload_hasType _ f)
  case h_10 htc | h_11 htc | h_12 htc | h_13 htc | h_14 htc | h_15 htc | h_16 htc | h_17 htc | h_18 htc | h_19 htc =>
    exact .of_tc htc (AirbornePosition.bits_ofFrame f) (baroPayload_hasType _ f)
  case h_20 htc => exact execSquitter19_acceptsSquitter fix s htc
  case h_21 htc | h_22 htc | h_23 htc =>
    exact .of_tc htc (AirbornePosition.bits_ofFrame f) (gnssPayload_hasType _ f)
  case h_32 =>
    have htc : (icao f 33 5).toNat = 31 := by grind
    exact .of_tc htc (OtherMe.bits_ofFrame f) (typePayload_hasType _ _)

/-- Settles O34: a frame that verifies goes to the ME dispatch unchanged, with CA and AA as received. -/
theorem verifiedSquittersAreAccepted : Obligations.VerifiedSquittersAreAccepted := by
  rintro f s _ rfl hcrc
  obtain ⟨hca, haa⟩ := ExtSquitter.fields_longFrame 17 f
  rcases execDf17ExtSquitter_cases f s _ rfl with ⟨_, hrun⟩ | ⟨hbad, _⟩ | ⟨hbad, _⟩ | ⟨hbad, _⟩
  case inl =>
    rw [haa] at hrun
    obtain ⟨p, haccept, htc, hst⟩ := execSquitter_acceptsSquitter .none (longFrame 17 f.bits)
      ((s.count .crcGood).cacheInsert (f.aa.setWidth 32) s.scan.now)
    exact ⟨_, _, hrun.trans haccept, State.accept_effect _ _, rfl, hca, haa, rfl, rfl, rfl, rfl, htc, hst⟩
  all_goals exact absurd hcrc hbad

/-! ### The writers of the cache (43_checksum R228) -/

/-- What follows r, if it is a next state, has the cache of s. -/
def KeepsCache (s : State) (r : Result) : Prop := ∀ t, r = .next t → t.cache = s.cache

theorem KeepsCache.next {s u : State} (h : u.cache = s.cache) : KeepsCache s (.next u) := by
  rintro _ ⟨⟩
  exact h

theorem KeepsCache.fault {s : State} (e : Fault) : KeepsCache s (.fault e) := by
  rintro _ ⟨⟩

theorem KeepsCache.error (s : State) (e : Status) : KeepsCache s (cmdError s e) := .next rfl

theorem KeepsCache.ok {s u : State} (v : U64) (h : u.cache = s.cache) : KeepsCache s (cmdOk u v) := .next h

theorem KeepsCache.whenIdle {s : State} {body : Result} (h : KeepsCache s body) :
    KeepsCache s (Machine.whenIdle s body) := by
  rcases whenIdle_cases s body with ⟨_, hw⟩ | ⟨_, hw⟩ <;> rw [hw]
  · exact .next rfl
  · exact h

theorem execRegWrite_keepsCache (sel : BitVec 8) (a : U64) (s : State) : KeepsCache s (execRegWrite sel a s) := by
  refine .whenIdle ?_
  split
  · exact .error s _
  · split
    · exact .error s _
    · split
      · exact .error s _
      · exact .ok _ rfl

theorem execRegRead_keepsCache (sel : BitVec 8) (s : State) : KeepsCache s (execRegRead sel s) := by
  unfold execRegRead
  split
  · exact .error s _
  · exact .ok _ rfl

theorem execSampleWrite_keepsCache (a b : U64) (s : State) : KeepsCache s (execSampleWrite a b s) := by
  refine .whenIdle ?_
  split
  · exact .error s _
  · split
    · exact .error s _
    · exact .ok _ rfl

theorem execSampleRead_keepsCache (a : U64) (s : State) : KeepsCache s (execSampleRead a s) := by
  unfold execSampleRead
  split
  · exact .error s _
  · split
    · exact .fault _
    · exact .ok _ rfl

theorem execProcess_keepsCache (a b : U64) (s : State) : KeepsCache s (execProcess a b s) := by
  refine .whenIdle ?_
  split
  · exact .error s _
  · split
    · exact .error s _
    · split
      · exact .error s _
      · split
        · exact .fault _
        · exact .ok _ rfl

theorem execCancel_keepsCache (s : State) : KeepsCache s (execCancel s) := by
  refine .ok _ ?_
  split <;> rfl

theorem execSweep_keepsCache (b : U64) (s : State) : KeepsCache s (execSweep b s) := by
  refine .whenIdle ?_
  split
  · exact .error s _
  · exact .ok _ rfl

theorem execMsgPop_keepsCache (s : State) : KeepsCache s (execMsgPop s) := by
  unfold execMsgPop
  split <;> exact .next rfl

theorem execTrackRead_keepsCache (a : U64) (s : State) : KeepsCache s (execTrackRead a s) := by
  unfold execTrackRead
  split
  · exact .error s _
  · split <;> exact .next rfl

theorem execTrackSlot_keepsCache (a : U64) (s : State) : KeepsCache s (execTrackSlot a s) := by
  unfold execTrackSlot
  split
  · exact .error s _
  · split <;> exact .next rfl

theorem execCacheQuery_keepsCache (a b : U64) (s : State) : KeepsCache s (execCacheQuery a b s) := by
  unfold execCacheQuery
  split
  · exact .error s _
  · exact .ok _ rfl

theorem State.verifyAp_cache (s : State) (f : Frame) (p : Payload) : (s.verifyAp f p).cache = s.cache := by
  rcases s.verifyAp_cases f p with ⟨_, h⟩ | ⟨_, h⟩ <;> simp [h]

theorem State.acceptSquitter_cache (s : State) (h : SquitterHead) (f : BitVec 112) (p : Payload) :
    (s.acceptSquitter h f p).cache = s.cache := s.accept_cache _

theorem decodeSquitter_keepsCache (s : State) (fix : BitFix) (f : BitVec 112) :
    KeepsCache s (decodeSquitter s fix f) := by
  obtain ⟨p, haccept, _⟩ := execSquitter_acceptsSquitter fix f s
  rw [decodeSquitter, haccept]
  exact .next (s.acceptSquitter_cache ..)

/-- An all-call reply leaves the cache, or verifies and inserts its address. -/
theorem execDf11AllCall_cache {f : AllCall} {s t : State} (h : execDf11AllCall f s = .next t) :
    t.cache = s.cache ∨
      checksum (shortFrame 11 f.bits) = txField (shortFrame 11 f.bits) ∧
        t.cache = (s.cacheInsert (f.aa.setWidth 32) s.scan.now).cache := by
  obtain ⟨_, haa⟩ := AllCall.fields_shortFrame 11 f
  rcases execDf11AllCall_cases f s _ rfl with ⟨hcrc, hrun⟩ | ⟨_, _, _, hrun⟩ | ⟨_, _, hrun⟩ <;>
    rw [hrun] at h <;> cases h
  · rw [haa]
    exact .inr ⟨hcrc, State.accept_cache _ _⟩
  · exact .inl (State.accept_cache _ _)
  · exact .inl (State.reject_cache _ _)

/-- An extended squitter leaves the cache, or verifies and inserts its address. -/
theorem execDf17ExtSquitter_cache {f : ExtSquitter} {s t : State} (h : execDf17ExtSquitter f s = .next t) :
    t.cache = s.cache ∨
      checksum (longFrame 17 f.bits) = txField (longFrame 17 f.bits) ∧
        t.cache = (s.cacheInsert (f.aa.setWidth 32) s.scan.now).cache := by
  obtain ⟨_, haa⟩ := ExtSquitter.fields_longFrame 17 f
  rcases execDf17ExtSquitter_cases f s _ rfl with ⟨hcrc, hrun⟩ | ⟨_, _, _, hrun⟩ | ⟨_, _, _, _, _, _, hrun⟩ |
    ⟨_, _, _, hrun⟩ <;> rw [hrun] at h
  · rw [haa] at h
    have hkept := decodeSquitter_keepsCache _ _ _ t h
    exact .inr ⟨hcrc, hkept⟩
  · have hkept := decodeSquitter_keepsCache _ _ _ t h
    exact .inl hkept
  · have hkept := decodeSquitter_keepsCache _ _ _ t h
    exact .inl hkept
  · cases h; exact .inl (State.reject_cache _ _)

/-- Settles O50, by the cases of the instruction: no other row than DF11 and DF17 touches the cache, and these only in the
first branch of R223. -/
theorem cacheSeeding : Obligations.CacheSeeding := by
  intro i s t h hreset hinsert
  cases i with
  | reset => exact absurd rfl hreset
  | cacheInsert a b => exact absurd rfl (hinsert a b)
  | nop => exact .inl (KeepsCache.ok 0 rfl t h)
  | regWrite sel a => exact .inl (execRegWrite_keepsCache sel a s t h)
  | regRead sel => exact .inl (execRegRead_keepsCache sel s t h)
  | sampleWrite a b => exact .inl (execSampleWrite_keepsCache a b s t h)
  | sampleRead a => exact .inl (execSampleRead_keepsCache a s t h)
  | process a b => exact .inl (execProcess_keepsCache a b s t h)
  | cancel => exact .inl (execCancel_keepsCache s t h)
  | sweep b => exact .inl (execSweep_keepsCache b s t h)
  | msgPop => exact .inl (execMsgPop_keepsCache s t h)
  | trackRead a => exact .inl (execTrackRead_keepsCache a s t h)
  | trackSlot a => exact .inl (execTrackSlot_keepsCache a s t h)
  | cacheQuery a b => exact .inl (execCacheQuery_keepsCache a b s t h)
  | reservedCmd w => exact .inl (KeepsCache.error s _ t h)
  | df11AllCall f => exact (execDf11AllCall_cache h).imp_right fun hseeds => .inl ⟨f, rfl, hseeds⟩
  | df17ExtSquitter f => exact (execDf17ExtSquitter_cache h).imp_right fun hseeds => .inr ⟨f, rfl, hseeds⟩
  | df0ShortAirAir f | df4SurvAlt f | df5SurvId f | df16LongAirAir f | df20CommbAlt f | df21CommbId f | df24CommD f =>
    exact .inl (KeepsCache.next (s.verifyAp_cache ..) t h)
  | df1Unsupported x | df2Unsupported x | df3Unsupported x | df6Unsupported x | df7Unsupported x | df8Unsupported x
  | df9Unsupported x | df10Unsupported x | df12Unsupported x | df13Unsupported x | df14Unsupported x
  | df15Unsupported x | df18Unsupported x | df19Unsupported x | df22Unsupported x | df23Unsupported x =>
    exact .inl (KeepsCache.next (s.reject_cache _) t h)
  | meTc0NoPosition k m | meTc1Identification k m | meTc2Identification k m | meTc3Identification k m
  | meTc4Identification k m | meTc5SurfacePosition k m | meTc6SurfacePosition k m | meTc7SurfacePosition k m
  | meTc8SurfacePosition k m | meTc9AirbornePositionBaro k m | meTc10AirbornePositionBaro k m
  | meTc11AirbornePositionBaro k m | meTc12AirbornePositionBaro k m | meTc13AirbornePositionBaro k m
  | meTc14AirbornePositionBaro k m | meTc15AirbornePositionBaro k m | meTc16AirbornePositionBaro k m
  | meTc17AirbornePositionBaro k m | meTc18AirbornePositionBaro k m | meTc19St0Reserved k m
  | meTc19St1VelocityGround k m | meTc19St2VelocityGround k m | meTc19St3VelocityAirspeed k m
  | meTc19St4VelocityAirspeed k m | meTc19St5Reserved k m | meTc19St6Reserved k m | meTc19St7Reserved k m
  | meTc20AirbornePositionGnss k m | meTc21AirbornePositionGnss k m | meTc22AirbornePositionGnss k m
  | meTc23Other k m | meTc24Other k m | meTc25Other k m | meTc26Other k m | meTc27Other k m | meTc28Other k m
  | meTc29Other k m | meTc30Other k m | meTc31Other k m =>
    exact .inl (KeepsCache.next (s.acceptSquitter_cache ..) t h)

end Sys2Proof.Machine

/-! The altitude codes and the identity code as numbers (44_decoder R252, R253, R268). -/

namespace Sys2Proof.Machine

/-! ### The altitude codes -/

theorem getLsbD_eq_true_iff {w : Nat} (a : BitVec w) (i : Nat) : a.getLsbD i = true ↔ a.toNat / 2 ^ i % 2 = 1 := by
  rw [← BitVec.testBit_toNat, Nat.testBit_eq_decide_div_mod_eq, decide_eq_true_iff]

theorem getLsbD_eq_false_iff {w : Nat} (a : BitVec w) (i : Nat) : a.getLsbD i = false ↔ a.toNat / 2 ^ i % 2 = 0 := by
  rw [← Bool.not_eq_true, getLsbD_eq_true_iff]
  exact Nat.mod_two_ne_one

theorem extractLsb'_toNat_div {w : Nat} (a : BitVec w) (k len : Nat) :
    (a.extractLsb' k len).toNat = a.toNat / 2 ^ k % 2 ^ len := by
  rw [BitVec.extractLsb'_toNat, Nat.shiftRight_eq_div_pow]

/-- The 13-bit altitude code without its M and Q bits. -/
theorem ac13_code_toNat (a : BitVec 13) :
    (a.extractLsb' 7 6 ++ (a.extractLsb' 5 1 ++ a.extractLsb' 0 4)).toNat =
      a.toNat / 128 * 32 + a.toNat / 32 % 2 * 16 + a.toNat % 16 := by
  simp only [toNat_append_add, extractLsb'_toNat_div]
  have hlt := a.isLt
  omega

/-- The 12-bit altitude code without its Q bit. -/
theorem ac12_code_toNat (a : BitVec 12) :
    (a.extractLsb' 5 7 ++ a.extractLsb' 0 4).toNat = a.toNat / 32 * 16 + a.toNat % 16 := by
  simp only [toNat_append_add, extractLsb'_toNat_div]
  have hlt := a.isLt
  omega

theorem ac13_eq (a : BitVec 13) :
    ac13 a =
      if a.toNat / 64 % 2 = 0 ∧ a.toNat / 16 % 2 = 1 then
        some (25 * ((a.toNat / 128 * 32 + a.toNat / 32 % 2 * 16 + a.toNat % 16 : Nat) : Int) - 1000)
      else none := by
  have hguard : (a.getLsbD 6 = false ∧ a.getLsbD 4 = true) ↔ (a.toNat / 64 % 2 = 0 ∧ a.toNat / 16 % 2 = 1) :=
    and_congr (getLsbD_eq_false_iff a 6) (getLsbD_eq_true_iff a 4)
  rw [← ac13_code_toNat]
  exact if_congr hguard rfl rfl

theorem ac12_eq (a : BitVec 12) :
    ac12 a =
      if a.toNat / 16 % 2 = 1 then some (25 * ((a.toNat / 32 * 16 + a.toNat % 16 : Nat) : Int) - 1000) else none := by
  rw [← ac12_code_toNat]
  exact if_congr (getLsbD_eq_true_iff a 4) rfl rfl

/-! ### The identity code -/

theorem toNat_getMsbD_single (b : BitVec 1) : (b.getMsbD 0).toNat = b.toNat := by
  rcases BitVec.eq_zero_or_eq_one b with rfl | rfl <;> rfl

/-- The bit in front of a word is its frame bit 0. -/
theorem toNat_getMsbD_append_zero {n : Nat} (b : BitVec 1) (r : BitVec n) :
    ((b ++ r).getMsbD 0).toNat = b.toNat := by
  rw [BitVec.getMsbD_append, if_neg (by decide), toNat_getMsbD_single]

/-- The bit in front of a word moves the word's bits on by one. -/
theorem getMsbD_append_succ {n : Nat} (b : BitVec 1) (r : BitVec n) (k : Nat) :
    (b ++ r).getMsbD (k + 1) = r.getMsbD k := by
  rw [BitVec.getMsbD_append, if_pos (Nat.le_add_left 1 k), Nat.add_sub_cancel]

theorem octal_le_seven (b4 b2 b1 : Bool) : octal b4 b2 b1 ≤ 7 := by
  have h4 := Bool.toNat_le b4
  have h2 := Bool.toNat_le b2
  have h1 := Bool.toNat_le b1
  rw [octal]
  omega

/-- Four octal digits are at most 7777, so the squawk's sixteen bits hold them. -/
theorem squawkOf_toNat (a : BitVec 13) :
    (squawkOf a).toNat =
      1000 * octal (a.getMsbD 5) (a.getMsbD 3) (a.getMsbD 1) + 100 * octal (a.getMsbD 11) (a.getMsbD 9) (a.getMsbD 7) +
        10 * octal (a.getMsbD 4) (a.getMsbD 2) (a.getMsbD 0) + octal (a.getMsbD 12) (a.getMsbD 10) (a.getMsbD 8) := by
  have hA := octal_le_seven (a.getMsbD 5) (a.getMsbD 3) (a.getMsbD 1)
  have hB := octal_le_seven (a.getMsbD 11) (a.getMsbD 9) (a.getMsbD 7)
  have hC := octal_le_seven (a.getMsbD 4) (a.getMsbD 2) (a.getMsbD 0)
  have hD := octal_le_seven (a.getMsbD 12) (a.getMsbD 10) (a.getMsbD 8)
  rw [squawkOf, BitVec.toNat_ofNat, Nat.mod_eq_of_lt (by omega)]

/-- The squawk of thirteen bits in the order of R253. -/
theorem squawkOf_bits_toNat (c1 a1 c2 a2 c4 a4 x b1 d1 b2 d2 b4 d4 : BitVec 1) :
    (squawkOf (c1 ++ (a1 ++ (c2 ++ (a2 ++ (c4 ++ (a4 ++ (x ++ (b1 ++ (d1 ++ (b2 ++ (d2 ++ (b4 ++ d4))))))))))))).toNat =
      1000 * (4 * a4.toNat + 2 * a2.toNat + a1.toNat) + 100 * (4 * b4.toNat + 2 * b2.toNat + b1.toNat) +
        10 * (4 * c4.toNat + 2 * c2.toNat + c1.toNat) + (4 * d4.toNat + 2 * d2.toNat + d1.toNat) := by
  simp only [squawkOf_toNat, octal, getMsbD_append_succ, toNat_getMsbD_append_zero, toNat_getMsbD_single]

/-- Settles O42: each code is read off by its own equation. -/
theorem altitudeAndIdentityCodes : Obligations.AltitudeAndIdentityCodes := by
  refine ⟨ac13_eq, ac12_eq, ?_⟩
  rintro c1 a1 c2 a2 c4 a4 x b1 d1 b2 d2 b4 d4 ident rfl
  exact squawkOf_bits_toNat c1 a1 c2 a2 c4 a4 x b1 d1 b2 d2 b4 d4

end Sys2Proof.Machine

/-! CPR_UPDATE (45_cpr R306, R307), by what the local and the global decode give: what it leaves of the track, when the
position is set or stands, and what is counted. -/

namespace Sys2Proof.Machine

/-! ### The stored sample -/

/-- u is a after a position message, but for the position: the sample under its parity and on_ground (45_cpr R306,
step 1). -/
def SampleStored (env : CprEnv) (a : Track) (lat lon : BitVec 17) (odd surface : Bool) (u : Track) : Prop :=
  u = { a with
    pos := u.pos, posTime := u.posTime, posSource := u.posSource, onGround := some surface
    cprEven := if odd then a.cprEven else some ⟨lat, lon, env.now, surface⟩
    cprOdd := if odd then some ⟨lat, lon, env.now, surface⟩ else a.cprOdd }

section StoredSample
variable (env : CprEnv) (a : Track) (lat lon : BitVec 17) (odd surface : Bool)

theorem storeSample_sampleStored : SampleStored env a lat lon odd surface (storeSample env a lat lon odd surface) := by
  cases odd <;> rfl

theorem storeSample_positionKept : PositionKept a (storeSample env a lat lon odd surface) := by
  cases odd <;> exact ⟨rfl, rfl, rfl⟩

/-! The checks and the references read nothing that the sample's storing writes. -/

theorem localReference_storeSample :
    localReference env (storeSample env a lat lon odd surface) surface = localReference env a surface := by
  cases odd <;> rfl

theorem globalReference_storeSample :
    globalReference env (storeSample env a lat lon odd surface) surface = globalReference env a surface := by
  cases odd <;> rfl

theorem plausible_storeSample (p : Position) :
    plausible env (storeSample env a lat lon odd surface) p surface = plausible env a p surface := by
  unfold plausible tooFast checkSpeed knownSpeed
  cases odd <;> rfl

end StoredSample

/-! ### Accepted and refused positions -/

section Positions
variable (env : CprEnv) (a : Track) (lat lon : BitVec 17) (odd surface : Bool)

/-- The track and the counters of a position that passes the checks, after the counters of the tries before it. -/
def acceptedUpdate (tried : List Cnt) (p : Position) (src : PosSource) : Track × List Cnt :=
  ((acceptPosition env (storeSample env a lat lon odd surface) p src).track,
    tried ++ (acceptPosition env (storeSample env a lat lon odd surface) p src).counts)

variable {env a lat lon odd surface}

theorem acceptedUpdate_of_acceptPosition (tried : List Cnt) {p : Position} {src : PosSource} {g : CprProgress}
    (h : acceptPosition env (storeSample env a lat lon odd surface) p src = g) :
    acceptedUpdate env a lat lon odd surface tried p src = (g.track, tried ++ g.counts) := by
  subst h
  rfl

theorem acceptedUpdate_of_inRange (tried : List Cnt) {p : Position} (src : PosSource) (hp : p.inRange = true) :
    acceptedUpdate env a lat lon odd surface tried p src =
      ({ storeSample env a lat lon odd surface with pos := some p, posTime := env.now, posSource := src },
        tried ++ [src.counter]) :=
  acceptedUpdate_of_acceptPosition tried (if_pos hp)

theorem acceptedUpdate_of_outOfRange (tried : List Cnt) {p : Position} (src : PosSource) (hp : p.inRange = false) :
    acceptedUpdate env a lat lon odd surface tried p src =
      (storeSample env a lat lon odd surface, tried ++ [.cprBadLat]) :=
  acceptedUpdate_of_acceptPosition tried (if_neg (by simp [hp]))

variable (env a lat lon odd surface) in
theorem acceptedUpdate_positionAccepted (tried : List Cnt) (p : Position) (src : PosSource) :
    PositionAccepted env a (acceptedUpdate env a lat lon odd surface tried p src).1 tried
      (acceptedUpdate env a lat lon odd surface tried p src).2 p src := by
  constructor <;> intro hp
  · rw [acceptedUpdate_of_inRange _ _ hp]
    exact ⟨rfl, rfl, rfl, by cases src <;> rfl⟩
  · rw [acceptedUpdate_of_outOfRange _ _ hp]
    exact ⟨storeSample_positionKept .., rfl⟩

variable (env a lat lon odd surface) in
theorem acceptedUpdate_sampleStored (tried : List Cnt) (p : Position) (src : PosSource) :
    SampleStored env a lat lon odd surface (acceptedUpdate env a lat lon odd surface tried p src).1 := by
  cases hp : p.inRange with
  | true => rw [acceptedUpdate_of_inRange _ _ hp]; cases odd <;> rfl
  | false => rw [acceptedUpdate_of_outOfRange _ _ hp]; exact storeSample_sampleStored ..

theorem plausible_eq_ok {p : Position} (h : Plausible env a p surface) : plausible env a p surface = .ok := by
  rcases plausible_cases env a p surface with ⟨_, hr⟩ | ⟨_, _, hs⟩ | ⟨h, _⟩
  · exact absurd hr h.1
  · exact absurd hs h.2
  · exact h

/-- A plausible position is accepted. -/
theorem tryPosition_storeSample {p : Position} (src : PosSource) (h : Plausible env a p surface) :
    tryPosition env (storeSample env a lat lon odd surface) p src surface =
      acceptPosition env (storeSample env a lat lon odd surface) p src := by
  rw [tryPosition, plausible_storeSample, plausible_eq_ok h, afterChecks]

/-- A position that fails a check is counted, and a further decode is tried. -/
theorem tryPosition_storeSample_of_refused {p : Position} {c : Cnt} (src : PosSource)
    (h : Refused env a surface (.ok p) c) :
    tryPosition env (storeSample env a lat lon odd surface) p src surface =
      ⟨storeSample env a lat lon odd surface, [c], false⟩ := by
  rw [tryPosition, plausible_storeSample]
  rcases plausible_cases env a p surface with ⟨hp, hr⟩ | ⟨hp, hr, hs⟩ | ⟨_, hr, hs⟩
  · rcases h with ⟨_, rfl⟩ | ⟨hn, _⟩
    · rw [hp, afterChecks]
    · exact absurd hr hn
  · rcases h with ⟨hn, _⟩ | ⟨_, _, rfl⟩
    · exact absurd hn hr
    · rw [hp, afterChecks]
  · rcases h with ⟨hn, _⟩ | ⟨_, hn, _⟩
    · exact absurd hn hr
    · exact absurd hn hs

/-- Every decode gives a position that passes the checks, or is refused for a reason. -/
theorem plausible_or_refused (env : CprEnv) (a : Track) (surface : Bool) (r : CprResult) :
    (∃ p, r = .ok p ∧ Plausible env a p surface) ∨ ∃ c, Refused env a surface r c := by
  cases r with
  | ok p =>
    rcases plausible_cases env a p surface with ⟨_, hr⟩ | ⟨_, hr, hs⟩ | ⟨_, h⟩
    · exact .inr ⟨_, .inl ⟨hr, rfl⟩⟩
    · exact .inr ⟨_, .inr ⟨hr, hs, rfl⟩⟩
    · exact .inl ⟨p, rfl, h⟩
  | badLat => exact .inr ⟨_, rfl⟩
  | zone => exact .inr ⟨_, rfl⟩
  | far => exact .inr ⟨_, rfl⟩

/-- The reasons of a refusal; only a decode of a pair has the reason of a zone boundary. -/
theorem Refused.reason {r : CprResult} {c : Cnt} (h : Refused env a surface r c) :
    (r = .zone ∧ c = .cprZone) ∨ c ∈ [Cnt.cprBadLat, .cprFar, .cprRejRange, .cprRejSpeed] := by
  cases r with
  | ok p => rcases h with ⟨_, rfl⟩ | ⟨_, _, rfl⟩ <;> simp
  | badLat => cases h; simp
  | zone => exact .inl ⟨rfl, h⟩
  | far => cases h; simp

end Positions

/-! ### The local decode -/

section LocalDecode
variable {env : CprEnv} {a : Track} {lat lon : BitVec 17} {odd surface : Bool}

theorem localStep_of_reference {ref : Position} {src : PosSource} (h : LocalReference env a surface ref src) :
    localStep env (storeSample env a lat lon odd surface) lat lon odd surface =
      afterLocal env (storeSample env a lat lon odd surface) src surface
        (localAsWritten ref lat lon odd surface) := by
  rw [localStep, localReference_storeSample, (localReference_iff ..).2 h, ← localDecode_asWritten]

/-- CPR_UPDATE by what its local step answers. -/
theorem cprUpdate_of_localStep {l : CprProgress}
    (h : localStep env (storeSample env a lat lon odd surface) lat lon odd surface = l) :
    cprUpdate env a lat lon odd surface =
      if l.done then (l.track, l.counts)
      else ((globalStep env l.track odd surface).track, l.counts ++ (globalStep env l.track odd surface).counts) := by
  subst h
  rfl

theorem acceptPosition_done (env : CprEnv) (a : Track) (p : Position) (src : PosSource) :
    (acceptPosition env a p src).done = true := by
  unfold acceptPosition
  split <;> rfl

/-- A local decode that passes the checks ends CPR_UPDATE. -/
theorem cprUpdate_of_localDecode {ref p : Position} {src : PosSource} (href : LocalReference env a surface ref src)
    (hdecode : localAsWritten ref lat lon odd surface = .ok p) (hp : Plausible env a p surface) :
    cprUpdate env a lat lon odd surface = acceptedUpdate env a lat lon odd surface [] p src := by
  have hlocal : localStep env (storeSample env a lat lon odd surface) lat lon odd surface =
      acceptPosition env (storeSample env a lat lon odd surface) p src := by
    rw [localStep_of_reference href, hdecode, afterLocal, tryPosition_storeSample src hp]
  rw [cprUpdate_of_localStep hlocal, if_pos (acceptPosition_done ..), acceptedUpdate_of_acceptPosition [] rfl,
    List.nil_append]

/-- A refused local decode is counted and leaves the track to the global one. -/
theorem afterLocal_of_refused {src : PosSource} {r : CprResult} {c : Cnt} (h : Refused env a surface r c)
    (hzone : r ≠ .zone) :
    afterLocal env (storeSample env a lat lon odd surface) src surface r =
      ⟨storeSample env a lat lon odd surface, [c], false⟩ := by
  cases r with
  | ok p => exact tryPosition_storeSample_of_refused src h
  | badLat => cases h; rfl
  | zone => exact absurd rfl hzone
  | far => cases h; rfl

theorem localStep_of_localFails {tried : List Cnt} (h : LocalFails env a lat lon odd surface tried) :
    localStep env (storeSample env a lat lon odd surface) lat lon odd surface =
      ⟨storeSample env a lat lon odd surface, tried, false⟩ := by
  rcases h with ⟨rfl, hnone⟩ | ⟨ref, src, c, rfl, href, hrefused⟩
  · rw [localStep, localReference_storeSample, (localReference_eq_none ..).2 hnone]
  · rw [localStep_of_reference href, afterLocal_of_refused hrefused (localAsWritten_ne_zone _ _ _ _ _)]

/-- Where the local decode gives no position, the global step decides. -/
theorem cprUpdate_of_localFails {tried : List Cnt} {g : CprProgress}
    (h : LocalFails env a lat lon odd surface tried)
    (hg : globalStep env (storeSample env a lat lon odd surface) odd surface = g) :
    cprUpdate env a lat lon odd surface = (g.track, tried ++ g.counts) := by
  rw [cprUpdate_of_localStep (localStep_of_localFails h), if_neg Bool.false_ne_true, hg]

/-- The local decode succeeds, or fails in one of the ways of R306. -/
theorem localDecode_or_localFails (env : CprEnv) (a : Track) (lat lon : BitVec 17) (odd surface : Bool) :
    (∃ ref src p, LocalReference env a surface ref src ∧ localAsWritten ref lat lon odd surface = .ok p ∧
      Plausible env a p surface) ∨
    ∃ tried, LocalFails env a lat lon odd surface tried := by
  by_cases hnone : ∀ ref src, ¬LocalReference env a surface ref src
  · exact .inr ⟨[], .inl ⟨rfl, hnone⟩⟩
  · push Not at hnone
    obtain ⟨ref, src, href⟩ := hnone
    rcases plausible_or_refused env a surface (localAsWritten ref lat lon odd surface) with ⟨p, hp, hok⟩ | ⟨c, hc⟩
    · exact .inl ⟨ref, src, p, href, hp, hok⟩
    · exact .inr ⟨[c], .inr ⟨ref, src, c, rfl, href, hc⟩⟩

theorem LocalFails.reasons {tried : List Cnt} (h : LocalFails env a lat lon odd surface tried) :
    ∀ c ∈ tried, c ∈ [Cnt.cprBadLat, .cprFar, .cprRejRange, .cprRejSpeed] := by
  rcases h with ⟨rfl, _⟩ | ⟨ref, src, c, rfl, _, hrefused⟩
  · simp
  · intro d hd
    rw [List.mem_singleton.1 hd]
    exact hrefused.reason.resolve_left fun hz => localAsWritten_ne_zone _ _ _ _ _ hz.1

end LocalDecode

/-! ### The global decode -/

section GlobalDecode
variable {env : CprEnv} {a : Track} {lat lon : BitVec 17} {odd surface : Bool}

theorem pairAsWritten_odd (lat lon : BitVec 17) (q : CprSample) (surface : Bool) (ref : Position) :
    pairAsWritten lat lon q true surface ref = globalAsWritten q.rawLat q.rawLon lat lon true surface ref := if_pos rfl

theorem pairAsWritten_even (lat lon : BitVec 17) (q : CprSample) (surface : Bool) (ref : Position) :
    pairAsWritten lat lon q false surface ref = globalAsWritten lat lon q.rawLat q.rawLon false surface ref :=
  if_neg Bool.false_ne_true

theorem pairAsWritten_ne_far (lat lon : BitVec 17) (q : CprSample) (odd surface : Bool) (ref : Position) :
    pairAsWritten lat lon q odd surface ref ≠ .far := by
  cases odd with
  | true => rw [pairAsWritten_odd]; exact globalAsWritten_ne_far _ _ _ _ _ _ _
  | false => rw [pairAsWritten_even]; exact globalAsWritten_ne_far _ _ _ _ _ _ _

/-- In the air the reference does not matter (45_cpr R300). -/
theorem pairAsWritten_airborne (lat lon : BitVec 17) (q : CprSample) (odd : Bool) (p r : Position) :
    pairAsWritten lat lon q odd false p = pairAsWritten lat lon q odd false r := by
  cases odd with
  | true => rw [pairAsWritten_odd, pairAsWritten_odd, globalAsWritten_airborne]
  | false => rw [pairAsWritten_even, pairAsWritten_even, globalAsWritten_airborne]

/-! Both samples of the pair, with the current one just stored. -/

@[simp] theorem storeSample_odd_cprEven (env : CprEnv) (a : Track) (lat lon : BitVec 17) (surface : Bool) :
    (storeSample env a lat lon true surface).cprEven = a.cprEven := rfl
@[simp] theorem storeSample_odd_cprOdd (env : CprEnv) (a : Track) (lat lon : BitVec 17) (surface : Bool) :
    (storeSample env a lat lon true surface).cprOdd = some ⟨lat, lon, env.now, surface⟩ := rfl
@[simp] theorem storeSample_even_cprEven (env : CprEnv) (a : Track) (lat lon : BitVec 17) (surface : Bool) :
    (storeSample env a lat lon false surface).cprEven = some ⟨lat, lon, env.now, surface⟩ := rfl
@[simp] theorem storeSample_even_cprOdd (env : CprEnv) (a : Track) (lat lon : BitVec 17) (surface : Bool) :
    (storeSample env a lat lon false surface).cprOdd = a.cprOdd := rfl

theorem globalStep_of_noSample (h : (if odd then a.cprEven else a.cprOdd) = none) :
    globalStep env (storeSample env a lat lon odd surface) odd surface =
      ⟨storeSample env a lat lon odd surface, [], true⟩ := by
  unfold globalStep
  cases odd with
  | true => rw [storeSample_odd_cprEven, show a.cprEven = none from h]
  | false => rw [storeSample_even_cprEven, storeSample_even_cprOdd, show a.cprOdd = none from h]

/-- With samples of both parities the global step goes on to the pairing condition and the reference. -/
theorem globalStep_of_samples {t : Track} {e o : CprSample} (he : t.cprEven = some e) (ho : t.cprOdd = some o) :
    (mayPair env.now surface (if odd then e else o) = true → ∀ ref, globalReference env t surface = some ref →
      globalStep env t odd surface =
        afterGlobal env t surface (globalAsWritten e.rawLat e.rawLon o.rawLat o.rawLon odd surface ref)) ∧
    (mayPair env.now surface (if odd then e else o) = false ∨ globalReference env t surface = none →
      globalStep env t odd surface = ⟨t, [], true⟩) := by
  unfold globalStep
  rw [he, ho]
  refine ⟨fun hpair ref href => ?_, fun h => ?_⟩
  · rw [← globalDecode_asWritten]
    simp only [hpair, href, if_true]
  · rcases h with h | h <;> simp only [h, Bool.false_eq_true, if_false, ite_self]

/-- The stored sample of the other parity is the one that is paired with the current one. -/
theorem globalStep_of_sample {q : CprSample} (hq : (if odd then a.cprEven else a.cprOdd) = some q) :
    (mayPair env.now surface q = true → ∀ ref, globalReference env a surface = some ref →
      globalStep env (storeSample env a lat lon odd surface) odd surface =
        afterGlobal env (storeSample env a lat lon odd surface) surface (pairAsWritten lat lon q odd surface ref)) ∧
    (mayPair env.now surface q = false ∨ globalReference env a surface = none →
      globalStep env (storeSample env a lat lon odd surface) odd surface =
        ⟨storeSample env a lat lon odd surface, [], true⟩) := by
  rw [← globalReference_storeSample env a lat lon odd surface]
  cases odd with
  | true =>
    have he : (storeSample env a lat lon true surface).cprEven = some q := hq
    have ho := storeSample_odd_cprOdd env a lat lon surface
    simpa only [pairAsWritten_odd, if_true] using
      globalStep_of_samples (env := env) (odd := true) (surface := surface) he ho
  | false =>
    have he := storeSample_even_cprEven env a lat lon surface
    have ho : (storeSample env a lat lon false surface).cprOdd = some q := hq
    simpa only [pairAsWritten_even, Bool.false_eq_true, if_false] using
      globalStep_of_samples (env := env) (odd := false) (surface := surface) he ho

theorem globalStep_of_unpaired (h : ∀ q, ¬Paired env a odd surface q) :
    globalStep env (storeSample env a lat lon odd surface) odd surface =
      ⟨storeSample env a lat lon odd surface, [], true⟩ := by
  cases hq : (if odd then a.cprEven else a.cprOdd) with
  | none => exact globalStep_of_noSample hq
  | some q =>
    refine (globalStep_of_sample hq).2 (.inl ?_)
    rw [← Bool.not_eq_true]
    exact fun hp => h q ⟨hq, (mayPair_iff ..).1 hp⟩

/-- The reference of the global decode is one that R300 allows, and on the surface the only one. -/
theorem globalReference_of {ref : Position} (h : GlobalReference env a surface ref) :
    ∃ r, globalReference env a surface = some r ∧ (surface = true → r = ref) := by
  unfold globalReference surfaceReference
  cases surface with
  | false => exact ⟨_, rfl, fun h => nomatch h⟩
  | true =>
    rcases h with h | h | ⟨h, hhome, rfl⟩
    · cases h
    · exact ⟨ref, by simp [h], fun _ => rfl⟩
    · exact ⟨env.home, by simp [h, hhome], fun _ => rfl⟩

theorem globalReference_eq_none (h : ∀ ref, ¬GlobalReference env a surface ref) :
    globalReference env a surface = none := by
  unfold globalReference surfaceReference
  cases surface with
  | false => exact absurd (.inl rfl) (h ⟨0, 0⟩)
  | true =>
    cases hpos : a.pos with
    | some p => exact absurd (.inr (.inl hpos)) (h p)
    | none =>
      cases hhome : env.homeValid with
      | true => exact absurd (.inr (.inr ⟨hpos, hhome, rfl⟩)) (h env.home)
      | false => simp

theorem globalStep_of_noReference (h : ∀ ref, ¬GlobalReference env a surface ref) :
    globalStep env (storeSample env a lat lon odd surface) odd surface =
      ⟨storeSample env a lat lon odd surface, [], true⟩ := by
  cases hq : (if odd then a.cprEven else a.cprOdd) with
  | none => exact globalStep_of_noSample hq
  | some q => exact (globalStep_of_sample hq).2 (.inr (globalReference_eq_none h))

theorem globalStep_of_paired {q : CprSample} {ref : Position} (hq : Paired env a odd surface q)
    (href : GlobalReference env a surface ref) :
    globalStep env (storeSample env a lat lon odd surface) odd surface =
      afterGlobal env (storeSample env a lat lon odd surface) surface
        (pairAsWritten lat lon q odd surface ref) := by
  obtain ⟨r, hr, hsurface⟩ := globalReference_of href
  have hsame : pairAsWritten lat lon q odd surface r = pairAsWritten lat lon q odd surface ref := by
    cases surface with
    | true => rw [hsurface rfl]
    | false => exact pairAsWritten_airborne _ _ _ _ _ _
  rw [← hsame]
  exact (globalStep_of_sample hq.1).1 ((mayPair_iff ..).2 hq.2) r hr

/-- A refused pair is counted and leaves the track. -/
theorem afterGlobal_of_refused {r : CprResult} {c : Cnt} (h : Refused env a surface r c) (hfar : r ≠ .far) :
    (afterGlobal env (storeSample env a lat lon odd surface) surface r).track =
        storeSample env a lat lon odd surface ∧
      (afterGlobal env (storeSample env a lat lon odd surface) surface r).counts = [c] := by
  cases r with
  | ok p => rw [afterGlobal, tryPosition_storeSample_of_refused .global h]; exact ⟨rfl, rfl⟩
  | badLat => cases h; exact ⟨rfl, rfl⟩
  | zone => cases h; exact ⟨rfl, rfl⟩
  | far => exact absurd rfl hfar

/-! ### The cases of CPR_UPDATE -/

theorem cprUpdate_of_unpaired {tried : List Cnt} (hlocal : LocalFails env a lat lon odd surface tried)
    (h : ∀ q, ¬Paired env a odd surface q) :
    cprUpdate env a lat lon odd surface = (storeSample env a lat lon odd surface, tried) := by
  rw [cprUpdate_of_localFails hlocal (globalStep_of_unpaired h), List.append_nil]

theorem cprUpdate_of_noReference {tried : List Cnt} (hlocal : LocalFails env a lat lon odd surface tried)
    (h : ∀ ref, ¬GlobalReference env a surface ref) :
    cprUpdate env a lat lon odd surface = (storeSample env a lat lon odd surface, tried) := by
  rw [cprUpdate_of_localFails hlocal (globalStep_of_noReference h), List.append_nil]

section Paired
variable {tried : List Cnt} {q : CprSample} {ref : Position}

theorem cprUpdate_of_refusedPair (hlocal : LocalFails env a lat lon odd surface tried)
    (hq : Paired env a odd surface q) (href : GlobalReference env a surface ref) {c : Cnt}
    (h : Refused env a surface (pairAsWritten lat lon q odd surface ref) c) :
    cprUpdate env a lat lon odd surface = (storeSample env a lat lon odd surface, tried ++ [c]) := by
  obtain ⟨htrack, hcounts⟩ :=
    afterGlobal_of_refused (lat := lat) (lon := lon) (odd := odd) h (pairAsWritten_ne_far _ _ _ _ _ _)
  rw [cprUpdate_of_localFails hlocal (globalStep_of_paired hq href), htrack, hcounts]

theorem cprUpdate_of_pair (hlocal : LocalFails env a lat lon odd surface tried)
    (hq : Paired env a odd surface q) (href : GlobalReference env a surface ref) {p : Position}
    (hdecode : pairAsWritten lat lon q odd surface ref = .ok p) (hp : Plausible env a p surface) :
    cprUpdate env a lat lon odd surface = acceptedUpdate env a lat lon odd surface tried p .global := by
  rw [cprUpdate_of_localFails hlocal (globalStep_of_paired hq href), hdecode, afterGlobal,
    tryPosition_storeSample .global hp, acceptedUpdate_of_acceptPosition tried rfl]

end Paired

/-- What CPR_UPDATE gives: the sample is stored, and the position stands, or one that passes the checks goes to
ACCEPT. -/
theorem cprUpdate_cases (env : CprEnv) (a : Track) (lat lon : BitVec 17) (odd surface : Bool) :
    (∃ cs : List Cnt, (∀ c ∈ cs, c ∈ [Cnt.cprZone, .cprBadLat, .cprFar, .cprRejRange, .cprRejSpeed]) ∧
      cprUpdate env a lat lon odd surface = (storeSample env a lat lon odd surface, cs)) ∨
    ∃ (tried : List Cnt) (p : Position) (src : PosSource),
      (∀ c ∈ tried, c ∈ [Cnt.cprBadLat, .cprFar, .cprRejRange, .cprRejSpeed]) ∧
      cprUpdate env a lat lon odd surface = acceptedUpdate env a lat lon odd surface tried p src := by
  rcases localDecode_or_localFails env a lat lon odd surface with ⟨ref, src, p, href, hdecode, hp⟩ | ⟨tried, hlocal⟩
  · exact .inr ⟨[], p, src, by simp, cprUpdate_of_localDecode href hdecode hp⟩
  · have htried := hlocal.reasons
    have hcounts : ∀ c ∈ tried, c ∈ [Cnt.cprZone, .cprBadLat, .cprFar, .cprRejRange, .cprRejSpeed] :=
      fun c hc => List.mem_cons_of_mem _ (htried c hc)
    by_cases hq : ∀ q, ¬Paired env a odd surface q
    · exact .inl ⟨tried, hcounts, cprUpdate_of_unpaired hlocal hq⟩
    by_cases href : ∀ ref, ¬GlobalReference env a surface ref
    · exact .inl ⟨tried, hcounts, cprUpdate_of_noReference hlocal href⟩
    push Not at hq href
    obtain ⟨q, hq⟩ := hq
    obtain ⟨ref, href⟩ := href
    rcases plausible_or_refused env a surface (pairAsWritten lat lon q odd surface ref) with ⟨p, hdecode, hp⟩ | ⟨c, hc⟩
    · exact .inr ⟨tried, p, .global, htried, cprUpdate_of_pair hlocal hq href hdecode hp⟩
    · refine .inl ⟨tried ++ [c], fun d hd => ?_, cprUpdate_of_refusedPair hlocal hq href hc⟩
      rcases List.mem_append.1 hd with hd | hd
      · exact hcounts d hd
      · rw [List.mem_singleton.1 hd]
        rcases hc.reason with ⟨_, rfl⟩ | hc
        · simp
        · exact List.mem_cons_of_mem _ hc

end GlobalDecode

theorem cprUpdate_sampleStored (env : CprEnv) (a : Track) (lat lon : BitVec 17) (odd surface : Bool) :
    SampleStored env a lat lon odd surface (cprUpdate env a lat lon odd surface).1 := by
  rcases cprUpdate_cases env a lat lon odd surface with ⟨cs, _, h⟩ | ⟨tried, p, src, _, h⟩ <;> rw [h]
  · exact storeSample_sampleStored ..
  · exact acceptedUpdate_sampleStored ..

/-- The position stands, with the reasons counted, or it is set, in range, with the counter of its source last. -/
theorem cprUpdate_position (env : CprEnv) (a : Track) (lat lon : BitVec 17) (odd surface : Bool) :
    (PositionKept a (cprUpdate env a lat lon odd surface).1 ∧
      ∀ c ∈ (cprUpdate env a lat lon odd surface).2,
        c ∈ [Cnt.cprZone, .cprBadLat, .cprFar, .cprRejRange, .cprRejSpeed]) ∨
    ∃ (p : Position) (src : PosSource) (before : List Cnt),
      p.inRange = true ∧ (∀ c ∈ before, c ∈ [Cnt.cprBadLat, .cprFar, .cprRejRange, .cprRejSpeed]) ∧
      cprUpdate env a lat lon odd surface =
        ({ storeSample env a lat lon odd surface with pos := some p, posTime := env.now, posSource := src },
          before ++ [src.counter]) := by
  rcases cprUpdate_cases env a lat lon odd surface with ⟨cs, hcs, h⟩ | ⟨tried, p, src, htried, h⟩
  · rw [h]
    exact .inl ⟨storeSample_positionKept .., hcs⟩
  · cases hp : p.inRange with
    | true =>
      rw [acceptedUpdate_of_inRange _ _ hp] at h
      exact .inr ⟨p, src, tried, hp, htried, h⟩
    | false =>
      rw [h, acceptedUpdate_of_outOfRange _ _ hp]
      refine .inl ⟨storeSample_positionKept .., fun c hc => ?_⟩
      rcases List.mem_append.1 hc with hc | hc
      · exact List.mem_cons_of_mem _ (htried c hc)
      · rw [List.mem_singleton.1 hc]; simp

end Sys2Proof.Machine

/-! TRACK_UPDATE as the whole of a table's change (46_tracker R331, R334), and the rules of position updates. -/

namespace Sys2Proof.Machine

/-! ### Slots -/

/-- With one slot per address, the slot of an address is the one found (46_tracker R331). -/
theorem findTrack_of_mem {m : Sparse Track} {i : Nat} {a : Track}
    (hunique : m.Pairwise (fun x y => x.2.icao ≠ y.2.icao)) (h : (i, a) ∈ m) : findTrack m a.icao = some (i, a) := by
  induction m with
  | nil => cases h
  | cons e r ih =>
    obtain ⟨hhead, htail⟩ := List.pairwise_cons.1 hunique
    rw [findTrack, List.find?_cons]
    rcases List.mem_cons.1 h with rfl | h
    · rw [beq_self_eq_true]
    · rw [beq_eq_false_iff_ne.2 (hhead _ h)]
      exact ih htail h

theorem findTrack_eq_none {m : Sparse Track} {c : U24} (h : ∀ e ∈ m, e.2.icao ≠ c) : findTrack m c = none :=
  List.find?_eq_none.2 fun e he => by simpa using h e he

theorem freeSlot_eq_some {m : Sparse Track} {i : Nat} (hi : i < 1024) (hfree : Sparse.lookup m i = none)
    (hlower : ∀ k, k < i → Sparse.lookup m k ≠ none) : freeSlot m = some i := by
  refine List.find?_range_eq_some.2 ⟨by simp [hfree], List.mem_range.2 hi, fun k hk => ?_⟩
  simpa [Option.isSome_iff_ne_none] using hlower k hk

theorem freeSlot_eq_none {m : Sparse Track} (h : ∀ i, i < 1024 → Sparse.lookup m i ≠ none) : freeSlot m = none :=
  List.find?_eq_none.2 fun i hi => by simpa using h i (List.mem_range.1 hi)

/-! ### The update of one slot -/

/-- t is s with u's track in slot i, no other slot changed, and u's counters counted. -/
structure SlotUpdated (s t : State) (i : Nat) (u : Track × List Cnt) : Prop where
  slot : Sparse.lookup t.tracks i = some u.1
  others : ∀ k, k ≠ i → Sparse.lookup t.tracks k = Sparse.lookup s.tracks k
  counted : ∀ c, CountedBy s t c (u.2.count c)

theorem State.putTrack_slotUpdated (s : State) (i : Nat) (u : Track × List Cnt) :
    SlotUpdated s (s.putTrack i u) i u where
  slot := by rw [State.putTrack_tracks, Sparse.lookup_put_same]
  others k hk := by rw [State.putTrack_tracks, Sparse.lookup_put_other _ _ hk]
  counted c := by rw [CountedBy, State.putTrack_counters, State.countAll_value]

theorem State.trackUpdate_slotUpdated_found {s : State} {m : Message} {i : Nat} {a : Track} {lat : BitVec 17}
    (hfind : findTrack s.tracks m.icao = some (i, a)) (hlat : m.payload.cprLat = some lat) :
    SlotUpdated s (s.trackUpdate m) i (positionUpdate s a m.payload lat) := by
  rw [State.trackUpdate, hfind, ← updateTrack_position s a _ lat hlat]
  exact s.putTrack_slotUpdated ..

theorem State.trackUpdate_slotUpdated_created {s : State} {m : Message} {i : Nat} {lat : BitVec 17}
    (hfind : findTrack s.tracks m.icao = none) (hfree : freeSlot s.tracks = some i)
    (hlat : m.payload.cprLat = some lat) :
    SlotUpdated s (s.trackUpdate m) i (positionUpdate s (createdTrack m.icao s.scan.now) m.payload lat) := by
  rw [State.trackUpdate, hfind, hfree, ← updateTrack_position s _ _ lat hlat]
  exact s.putTrack_slotUpdated ..

theorem State.trackUpdate_full {s : State} {m : Message} (hfind : findTrack s.tracks m.icao = none)
    (hfree : freeSlot s.tracks = none) : s.trackUpdate m = s.count .trackFull := by
  rw [State.trackUpdate, hfind, hfree]

/-- One counter alone grows. -/
theorem State.count_countedBy (s : State) (c d : Cnt) : CountedBy s (s.count c) d (if d = c then 1 else 0) := by
  rw [CountedBy, State.count_value]
  by_cases h : d = c
  · rw [if_pos h, if_pos h.symm]; rfl
  · rw [if_neg h, if_neg (Ne.symm h), BitVec.add_zero]

/-! ### Position updates -/

/-- Settles O44: CPR_UPDATE ends in one of the cases of the local and the global decode, each written as 45_cpr writes
it, and TRACK_UPDATE puts its track into the slot of the address or the lowest free one. -/
theorem positionUpdates : Obligations.PositionUpdates := by
  refine ⟨fun env a u lat lon odd surface cs h => ⟨⟨?stored, ?position⟩, ?localDecode, fun tried hlocal =>
    ⟨?unpaired, ?noReference, fun q ref hq href => ⟨?refused, ?pair⟩⟩⟩,
    fun s m lat htracks hlat => ⟨?found, ?created, ?full⟩⟩
  case stored =>
    have hu := cprUpdate_sampleStored env a lat lon odd surface
    rwa [h] at hu
  case position =>
    have hposition := cprUpdate_position env a lat lon odd surface
    rw [h] at hposition
    rcases hposition with hkept | ⟨p, src, before, hp, hbefore, heq⟩
    · exact .inl hkept
    · cases heq
      refine .inr ⟨p, before, rfl, rfl, hp, hbefore, ?_⟩
      cases src with
      | global => exact .inl ⟨rfl, rfl⟩
      | localFix => exact .inr (.inl ⟨rfl, rfl⟩)
      | relative => exact .inr (.inr ⟨rfl, rfl⟩)
  case localDecode =>
    intro ref src p href hdecode hp
    have haccepted := acceptedUpdate_positionAccepted env a lat lon odd surface [] p src
    rwa [← cprUpdate_of_localDecode href hdecode hp, h] at haccepted
  case unpaired =>
    intro hnone
    rw [cprUpdate_of_unpaired hlocal hnone] at h
    cases h
    exact ⟨storeSample_positionKept .., rfl⟩
  case noReference =>
    intro hnone
    rw [cprUpdate_of_noReference hlocal hnone] at h
    cases h
    exact ⟨storeSample_positionKept .., rfl⟩
  case refused =>
    intro c hc
    rw [cprUpdate_of_refusedPair hlocal hq href hc] at h
    cases h
    exact ⟨storeSample_positionKept .., rfl⟩
  case pair =>
    intro p hdecode hp
    have haccepted := acceptedUpdate_positionAccepted env a lat lon odd surface tried p .global
    rwa [← cprUpdate_of_pair hlocal hq href hdecode hp, h] at haccepted
  case found =>
    intro i a hmem hicao
    obtain ⟨hslot, hothers, hcounted⟩ :=
      State.trackUpdate_slotUpdated_found (hicao ▸ findTrack_of_mem htracks.unique hmem) hlat
    exact ⟨hslot, hothers, hcounted⟩
  case created =>
    rintro hnew i _ hi hfree hlower rfl
    obtain ⟨hslot, hothers, hcounted⟩ := State.trackUpdate_slotUpdated_created (findTrack_eq_none hnew)
      (freeSlot_eq_some hi hfree hlower) hlat
    exact ⟨hslot, hothers, hcounted⟩
  case full =>
    intro hnew hall
    rw [State.trackUpdate_full (findTrack_eq_none hnew) (freeSlot_eq_none hall)]
    exact ⟨rfl, s.count_countedBy .trackFull⟩

end Sys2Proof.Machine

/-! Times (45_cpr R301, 60_exceptions R401, 47_commands R366): every step keeps them at most NOW, and NOW at most
LAST_TIME. -/

namespace Sys2Proof.Machine

/-! ### The times of a track -/

/-- No time of a track is after t (45_cpr R301). -/
structure TrackTimesOk (t : U64) (a : Track) : Prop where
  seen : a.lastSeen.toNat ≤ t.toNat
  even : ∀ c, a.cprEven = some c → c.timestamp.toNat ≤ t.toNat
  odd : ∀ c, a.cprOdd = some c → c.timestamp.toNat ≤ t.toNat
  position : a.pos ≠ none → a.posTime.toNat ≤ t.toNat

theorem TrackTimesOk.mono {t t' : U64} {a : Track} (h : TrackTimesOk t a) (hle : t.toNat ≤ t'.toNat) :
    TrackTimesOk t' a where
  seen := h.seen.trans hle
  even c hc := (h.even c hc).trans hle
  odd c hc := (h.odd c hc).trans hle
  position hp := (h.position hp).trans hle

theorem newTrack_timesOk (a : U24) (t : U64) : TrackTimesOk t (newTrack a t) where
  seen := Nat.le_refl _
  even _ h := nomatch h
  odd _ h := nomatch h
  position h := absurd rfl h

theorem scalarUpdate_timesOk {t : U64} {a : Track} (p : Payload) (h : TrackTimesOk t a) :
    TrackTimesOk t (scalarUpdate a p t) where
  seen := Nat.le_refl _
  even := h.even
  odd := h.odd
  position := h.position

theorem storeSample_timesOk {env : CprEnv} {a : Track} (lat lon : BitVec 17) (odd surface : Bool)
    (h : TrackTimesOk env.now a) : TrackTimesOk env.now (storeSample env a lat lon odd surface) := by
  have hnow : ∀ c, some (⟨lat, lon, env.now, surface⟩ : CprSample) = some c → c.timestamp.toNat ≤ env.now.toNat := by
    intro c hc
    cases hc
    exact Nat.le_refl _
  cases odd with
  | true => exact ⟨h.seen, h.even, hnow, h.position⟩
  | false => exact ⟨h.seen, hnow, h.odd, h.position⟩

/-- A position is set with NOW, or stands with the time it had. -/
theorem cprUpdate_timesOk {env : CprEnv} {a : Track} (lat lon : BitVec 17) (odd surface : Bool)
    (h : TrackTimesOk env.now a) : TrackTimesOk env.now (cprUpdate env a lat lon odd surface).1 := by
  have hstored := storeSample_timesOk lat lon odd surface h
  rcases cprUpdate_cases env a lat lon odd surface with ⟨cs, _, hu⟩ | ⟨tried, p, src, _, hu⟩ <;> rw [hu]
  · exact hstored
  · cases hp : p.inRange with
    | true =>
      rw [acceptedUpdate_of_inRange _ _ hp]
      exact ⟨hstored.seen, hstored.even, hstored.odd, fun _ => Nat.le_refl _⟩
    | false =>
      rw [acceptedUpdate_of_outOfRange _ _ hp]
      exact hstored

theorem updateTrack_timesOk {env : CprEnv} {a : Track} (p : Payload) (h : TrackTimesOk env.now a) :
    TrackTimesOk env.now (updateTrack env a p).1 := by
  have hscalars := scalarUpdate_timesOk p h
  unfold updateTrack
  cases p.cprLat with
  | none => exact hscalars
  | some lat => exact cprUpdate_timesOk _ _ _ _ hscalars

/-! ### The times of a state -/

theorem timesOk_iff (s : State) :
    TimesOk s ↔ s.scan.now.toNat ≤ s.regs.lastTime.toNat ∧ (∀ e ∈ s.tracks, TrackTimesOk s.scan.now e.2) ∧
      ∀ m ∈ s.fifo, m.timestamp.toNat ≤ s.scan.now.toNat := by
  constructor
  · rintro ⟨hnow, hseen, heven, hodd, hposition, hrecords⟩
    exact ⟨hnow, fun e he => ⟨hseen e he, heven e he, hodd e he, hposition e he⟩, hrecords⟩
  · rintro ⟨hnow, htracks, hrecords⟩
    exact ⟨hnow, fun e he => (htracks e he).seen, fun e he => (htracks e he).even, fun e he => (htracks e he).odd,
      fun e he => (htracks e he).position, hrecords⟩

/-- TimesOk lets NOW and LAST_TIME move on, and tracks and records be removed. -/
theorem TimesOk.mono {s t : State} (hs : TimesOk s) (hnow : s.scan.now.toNat ≤ t.scan.now.toNat)
    (hlast : t.scan.now.toNat ≤ t.regs.lastTime.toNat) (htracks : ∀ e ∈ t.tracks, e ∈ s.tracks)
    (hfifo : ∀ m ∈ t.fifo, m ∈ s.fifo) : TimesOk t := by
  rw [timesOk_iff] at *
  obtain ⟨_, htimes, hrecords⟩ := hs
  exact ⟨hlast, fun e he => (htimes e (htracks e he)).mono hnow, fun m hm => (hrecords m (hfifo m hm)).trans hnow⟩

/-- TimesOk reads NOW, LAST_TIME, the tracks and the FIFO alone. -/
theorem TimesOk.congr {s t : State} (hs : TimesOk s) (hnow : t.scan.now = s.scan.now)
    (hlast : t.regs.lastTime = s.regs.lastTime) (htracks : t.tracks = s.tracks) (hfifo : t.fifo = s.fifo) :
    TimesOk t :=
  hs.mono (by rw [hnow]) (by rw [hnow, hlast]; exact hs.now) (fun _ he => htracks ▸ he) (fun _ hm => hfifo ▸ hm)

/-- No write to a register changes LAST_TIME (10_state R47). -/
theorem Regs.write_lastTime (r : Regs) (g : Reg) (v : U64) : (r.write g v).lastTime = r.lastTime := by
  cases g <;> rfl

theorem State.sweep_mem {s : State} {t : U64} {e : Nat × Track} (h : e ∈ (s.sweep t).1.tracks) : e ∈ s.tracks :=
  List.mem_of_mem_filter h

theorem CommandCase.timesOk {s t : State} (h : CommandCase s t) (hs : TimesOk s) : TimesOk t := by
  cases h with
  | resets => exact (timesOk_iff _).2 ⟨Nat.le_refl _, by simp, by simp⟩
  | writesRegister g a => exact hs.congr rfl (Regs.write_lastTime ..) rfl rfl
  | starts ms n t _ _ hlater => exact hs.mono (hs.now.trans hlater) (Nat.le_refl _) (fun _ h => h) (fun _ h => h)
  | sweeps t v _ hlater =>
    exact hs.mono (Nat.le_refl _) (hs.now.trans hlater) (fun _ h => State.sweep_mem h) (fun _ h => h)
  | pops m rest hfifo =>
    exact hs.mono (Nat.le_refl _) hs.now (fun _ h => h) (fun _ h => hfifo ▸ List.mem_cons_of_mem m h)
  | _ => exact hs.congr rfl rfl rfl rfl

theorem State.trackUpdate_timesOk {s : State} (m : Message) (h : ∀ e ∈ s.tracks, TrackTimesOk s.scan.now e.2) :
    ∀ e ∈ (s.trackUpdate m).tracks, TrackTimesOk s.scan.now e.2 := by
  have hput : ∀ (i : Nat) (a : Track), TrackTimesOk s.scan.now a →
      ∀ e ∈ (s.putTrack i (updateTrack s.cprEnv a m.payload)).tracks, TrackTimesOk s.scan.now e.2 := by
    intro i a ha e he
    rw [State.putTrack_tracks] at he
    rcases Sparse.mem_put he with rfl | he
    · exact updateTrack_timesOk (env := s.cprEnv) m.payload ha
    · exact h e he
  rcases s.trackUpdate_cases m with ⟨i, a, hfind, hu⟩ | ⟨_, i, _, hu⟩ | ⟨_, _, hu⟩ <;> rw [hu]
  · exact hput i a (h _ (List.mem_of_find?_eq_some hfind))
  · exact hput i _ (newTrack_timesOk ..)
  · exact h

theorem State.accept_tracks (s : State) (m : Message) : (s.accept m).tracks = (s.trackUpdate m).tracks :=
  (s.accept_effect m).tracked

/-- An acceptance stamps the record and the track with NOW. -/
theorem State.accept_timesOk {s : State} {m : Message} (hs : TimesOk s) (hm : m.timestamp = s.scan.now) :
    TimesOk (s.accept m) := by
  rw [timesOk_iff] at *
  obtain ⟨hnow, htracks, hrecords⟩ := hs
  rw [State.accept_regs, State.accept_scan, State.accept_tracks, State.accept_fifo]
  refine ⟨hnow, State.trackUpdate_timesOk m htracks, fun r hr => ?_⟩
  split at hr
  · rcases List.mem_append.1 hr with hr | hr
    · exact hrecords r hr
    · rw [List.mem_singleton.1 hr, hm]
  · exact hrecords r hr

theorem Prepared.timesOk {s u : State} (hu : Prepared s u) (hs : TimesOk s) : TimesOk u :=
  hs.congr (congrArg Scan.now hu.scan) (congrArg Regs.lastTime hu.regs) hu.tracks hu.fifo

theorem Attempting.timesOk {s u : State} (hu : Attempting s u) (hs : TimesOk s) : TimesOk u :=
  hs.congr (by rw [hu.scan]) (congrArg Regs.lastTime hu.regs) hu.tracks hu.fifo

theorem State.finish_now (s : State) : s.finish.scan.now = s.scan.now := by rw [State.finish_scan]

theorem State.finish_timesOk {s : State} (hs : TimesOk s) : TimesOk s.finish :=
  hs.congr s.finish_now (by rw [State.finish_regs]) s.finish_tracks s.finish_fifo

theorem State.reject_timesOk {s : State} (c : Cnt) (hs : TimesOk s) : TimesOk (s.reject c) :=
  hs.congr (s.reject_effect c).context.2.1 (by rw [State.reject_regs]) (s.reject_tracks c) (s.reject_fifo c)

theorem PipelineCase.timesOk {s t : State} (h : PipelineCase s t) (hs : TimesOk s) : TimesOk t := by
  cases h with
  | idle => exact hs
  | cancels => exact hs.congr rfl rfl rfl rfl
  | skips => exact State.finish_timesOk (hs.congr rfl rfl rfl rfl)
  | rejects u c _ _ hu => exact State.reject_timesOk c (hu.timesOk hs)
  | accepts u v m _ _ hu hv _ htime =>
    exact State.accept_timesOk (hv.timesOk (hu.timesOk hs)) (htime.trans (congrArg Scan.now hv.scan).symm)

/-- Settles O57: NOW moves on only with LAST_TIME, in a PROCESS that checks its time, and everything else is stamped
with NOW. -/
theorem timesNeverRunAhead : Obligations.TimesNeverRunAhead :=
  step_keeps (fun _ hs => hs.congr rfl rfl rfl rfl) (fun _ _ hs h => h.timesOk hs) (fun _ _ hs h => h.timesOk hs)

end Sys2Proof.Machine

/-! NL as a count of thresholds (45_cpr R291), and the reference vectors of the global decode (45_cpr section 7), which
are computed on bit patterns. -/

namespace Sys2Proof.Machine

/-- The 58 thresholds of 45_cpr R291 as binary64 patterns. -/
def nlPatterns : List Nat := [
  0x4024F0E19D3E69C8, 0x402DA80678951220, 0x40322FAEF8259612, 0x403507866D1704A9, 0x40378B880F8380A9,
  0x4039D4498935F42E, 0x403BF0617565DDAA, 0x403DE94EAEE4AF6D, 0x403FC5A8277BEFE6, 0x4040C51C91B117E5,
  0x40419D4FBD8281FB, 0x40426CD50702FE8D, 0x404334CA24A6D369, 0x4043F616AB931648, 0x4044B1796EABDA39,
  0x40456791E748A409, 0x404618E6FF937390, 0x4046C5EC15A7DCFE, 0x40476F04C0841421, 0x40481487B39314F0,
  0x4048B6C0FBC8B8C1, 0x404955F3C4327471, 0x4049F25BBD807E96, 0x404A8C2E40C597FA, 0x404B239B3AAE7CAB,
  0x404BB8CDEDB42308, 0x404C4BED91E94C09, 0x404CDD1DDA5B80AF, 0x404D6C7F64E50700, 0x404DFA30188C12F3,
  0x404E864B74C87EDF, 0x404F10EAD5B6D640, 0x404F9A25AD233940, 0x40501108D9E38BAB, 0x40505461891C73D4,
  0x4050972642090EF2, 0x4050D95FBA3A4E05, 0x40511B160A42F9FB, 0x40515C50B67115C2, 0x40519D16B441BB8C,
  0x4051DD6E6C79FBC5, 0x40521D5DB94E6AC7, 0x40525CE9DF41C471, 0x40529C177F4D9306, 0x4052DAEA7F450497,
  0x40531965E3FFC446, 0x4053578B95D594C7, 0x4053955C027F8C27, 0x4053D2D58537E2C5, 0x40540FF36B51DD98,
  0x40544CAC40C5EDE0, 0x405488EEB6365D5F, 0x4054C49B8E9C0F96, 0x4054FF7898B84830, 0x40553910FD1DA27D,
  0x40557058BD3B345F, 0x4055A2438072D70D, 0x4055C00000000000]

/-- Each pattern is the binary64 nearest to its decimal. -/
theorem nlTab_eq_patterns : nlTab = nlPatterns.map (BitVec.ofNat 64) := by decide +kernel

theorem nlPatterns_sorted : nlPatterns.Pairwise (fun a b => a < b) := by decide

/-- NL is 59 less the number of thresholds at or below the absolute value. -/
theorem nl_eq {lat : F64} (h : lat.toNat % 2 ^ 63 ≤ 0x7FF0000000000000) :
    nl lat = 59 - (nlPatterns.filter (fun t => t ≤ lat.toNat % 2 ^ 63)).length := by
  have habs := F64.abs_toNat lat
  have hbound : ∀ t ∈ nlPatterns, t ≤ 0x7FF0000000000000 := by decide
  rw [nl, nlTab_eq_patterns, nlFrom_eq _ (habs ▸ h) _ _ nlPatterns_sorted hbound, habs]

/-- Settles O45: NL counts the patterns of its table, and each vector is computed. -/
theorem globalDecodeVectors : Obligations.GlobalDecodeVectors := by
  refine ⟨?airEven, ?airOdd, ?badLat, ?zone, ?near, ?east, ?west, ?opposite, ?oddNear, ?oddEast, ?oddWest, ?oddOpposite,
    ?south, ?nl, ?samples⟩
  case near | east | west | opposite =>
    simp only [List.forall_mem_cons, List.not_mem_nil, false_implies, implies_true, and_true]
    decide +kernel
  case nl =>
    rintro lat _ rfl h
    exact nl_eq h
  all_goals decide +kernel

end Sys2Proof.Machine

/-! The track table (46_tracker R331 to R339): what a message without a position writes, which slot an update goes to, and
what every step and every instruction keeps of the table. -/

namespace Sys2Proof.Machine

/-! ### Slots of a table -/

/-- A table whose slots rise lists each slot once. -/
theorem Sparse.eq_of_mem {α : Type} {m : Sparse α} (hm : Sparse.wf m) {e f : Nat × α} (he : e ∈ m) (hf : f ∈ m)
    (h : e.1 = f.1) : e = f :=
  List.inj_on_of_nodup_map (List.pairwise_map.2 (hm.imp Nat.ne_of_lt)) he hf h

/-- A symmetric relation between the entries of a table still holds when one slot is set, if the new entry has it to the
entries of the other slots. -/
theorem Sparse.put_pairwise {α : Type} {R : Nat × α → Nat × α → Prop} (hsymm : ∀ x y, R x y → R y x) {m : Sparse α}
    {a : Nat} {v : α} (hm : Sparse.wf m) (h : m.Pairwise R) (hnew : ∀ e ∈ m, e.1 ≠ a → R (a, v) e) :
    (Sparse.put m a v).Pairwise R := by
  induction m with
  | nil => exact List.pairwise_singleton R _
  | cons c r ih =>
    obtain ⟨k, x⟩ := c
    obtain ⟨hlower, hr⟩ := List.pairwise_cons.1 hm
    obtain ⟨hhead, htail⟩ := List.pairwise_cons.1 h
    obtain ⟨hnewHead, hnewTail⟩ := List.forall_mem_cons.1 hnew
    rw [Sparse.put]
    split
    · next hak =>
      refine List.pairwise_cons.2 ⟨List.forall_mem_cons.2 ⟨hnewHead hak.ne', fun e he => hnewTail e he ?_⟩, h⟩
      exact (hak.trans (hlower e he)).ne'
    · split
      · next hak =>
        exact List.pairwise_cons.2 ⟨fun e he => hnewTail e he (hak ▸ hlower e he).ne', htail⟩
      · next hak =>
        refine List.pairwise_cons.2 ⟨fun e he => ?_, ih hr htail hnewTail⟩
        rcases Sparse.mem_put he with rfl | he
        · exact hsymm _ _ (hnewHead (Ne.symm hak))
        · exact hhead e he

theorem freeSlot_lt {m : Sparse Track} {i : Nat} (h : freeSlot m = some i) : i < 1024 := by
  have hmem := List.mem_of_find?_eq_some h
  exact List.mem_range.1 hmem

theorem lookup_freeSlot {m : Sparse Track} {i : Nat} (h : freeSlot m = some i) : Sparse.lookup m i = none := by
  simpa using List.find?_some h

theorem findTrack_mem {m : Sparse Track} {c : U24} {i : Nat} {a : Track} (h : findTrack m c = some (i, a)) :
    (i, a) ∈ m ∧ a.icao = c :=
  ⟨List.mem_of_find?_eq_some h, by simpa using List.find?_some h⟩

theorem icao_ne_of_findTrack_eq_none {m : Sparse Track} {c : U24} (h : findTrack m c = none) :
    ∀ e ∈ m, e.2.icao ≠ c := fun e he => by
  simpa using List.find?_eq_none.1 h e he

/-! ### The track of an update -/

theorem cprUpdate_icao (env : CprEnv) (a : Track) (lat lon : BitVec 17) (odd surface : Bool) :
    (cprUpdate env a lat lon odd surface).1.icao = a.icao := by
  have haddress := congrArg Track.icao (cprUpdate_sampleStored env a lat lon odd surface)
  exact haddress

/-- No update changes the address of a track (46_tracker R332, 45_cpr R306). -/
theorem updateTrack_icao (s : State) (a : Track) (p : Payload) : (updateTrack s.cprEnv a p).1.icao = a.icao := by
  cases hlat : p.cprLat with
  | none => rw [updateTrack_noPosition s a p hlat]; rfl
  | some lat =>
    rw [updateTrack_position s a p lat hlat]
    exact cprUpdate_icao ..

/-- The position of a track, if it has one, is in range (45_cpr R307). -/
def PositionInRange (a : Track) : Prop := ∀ p, a.pos = some p → p.inRange = true

/-- A position that CPR_UPDATE sets passed its range check. -/
theorem cprUpdate_positionInRange {a : Track} (env : CprEnv) (lat lon : BitVec 17) (odd surface : Bool)
    (h : PositionInRange a) : PositionInRange (cprUpdate env a lat lon odd surface).1 := by
  rcases cprUpdate_position env a lat lon odd surface with ⟨⟨hpos, _⟩, _⟩ | ⟨p, src, before, hp, _, hu⟩
  · exact fun q hq => h q (hpos.symm.trans hq)
  · rw [hu]
    rintro _ ⟨⟩
    exact hp

theorem updateTrack_positionInRange {a : Track} (s : State) (p : Payload) (h : PositionInRange a) :
    PositionInRange (updateTrack s.cprEnv a p).1 := by
  have hscalars : PositionInRange (scalarsUpdated a p s.scan.now) := h
  cases hlat : p.cprLat with
  | none => rwa [updateTrack_noPosition s a p hlat]
  | some lat =>
    rw [updateTrack_position s a p lat hlat]
    exact cprUpdate_positionInRange _ _ _ _ _ hscalars

/-! ### The slot of an update -/

/-- Slot i is the one that a message from address c updates, and a the track it starts from: the only slot that can have
the address (46_tracker R331). -/
structure SlotFor (s : State) (c : U24) (i : Nat) (a : Track) : Prop where
  inTable : i < 1024
  address : a.icao = c
  position : PositionInRange a
  others : ∀ e ∈ s.tracks, e.1 ≠ i → e.2.icao ≠ c
  current : ∀ b, Sparse.lookup s.tracks i = some b → b.icao = c

theorem SlotFor.of_found {s : State} {c : U24} {i : Nat} {a : Track} (hs : TracksOk s)
    (h : findTrack s.tracks c = some (i, a)) : SlotFor s c i a := by
  obtain ⟨hmem, rfl⟩ := findTrack_mem h
  exact
    { inTable := hs.slots _ hmem
      address := rfl
      position := hs.positions _ hmem
      others := fun e he hne heq => hne (congrArg Prod.fst
        (List.inj_on_of_nodup_map (f := fun e => e.2.icao) (List.pairwise_map.2 hs.unique) he hmem heq))
      current := fun b hb => by cases Sparse.eq_of_mem hs.order (Sparse.lookup_mem hb) hmem rfl; rfl }

theorem SlotFor.of_created {s : State} {c : U24} {i : Nat} (now : U64) (h : findTrack s.tracks c = none)
    (hi : freeSlot s.tracks = some i) : SlotFor s c i (newTrack c now) where
  inTable := freeSlot_lt hi
  address := rfl
  position _ hp := nomatch hp
  others e he _ := icao_ne_of_findTrack_eq_none h e he
  current _ hb := nomatch (lookup_freeSlot hi).symm.trans hb

/-- TRACK_UPDATE updates the one slot that the message's address can have, or finds the table full. -/
theorem State.trackUpdate_slotFor {s : State} (m : Message) (hs : TracksOk s) :
    (∃ i a, SlotFor s m.icao i a ∧ s.trackUpdate m = s.putTrack i (updateTrack s.cprEnv a m.payload)) ∨
    s.trackUpdate m = s.count .trackFull := by
  rcases s.trackUpdate_cases m with ⟨i, a, hfind, hu⟩ | ⟨hfind, i, hfree, hu⟩ | ⟨_, _, hu⟩
  · exact .inl ⟨i, a, .of_found hs hfind, hu⟩
  · exact .inl ⟨i, _, .of_created _ hfind hfree, hu⟩
  · exact .inr hu

/-! ### The invariant -/

/-- TracksOk reads the track table alone. -/
theorem TracksOk.congr {s t : State} (hs : TracksOk s) (h : t.tracks = s.tracks) : TracksOk t := by
  obtain ⟨horder, hslots, hunique, hpositions⟩ := hs
  rw [← h] at horder hslots hunique hpositions
  exact ⟨horder, hslots, hunique, hpositions⟩

theorem State.resetKeepingRam_tracksOk (s : State) : TracksOk s.resetKeepingRam where
  order := .nil
  slots := by simp
  unique := .nil
  positions := by simp

/-- A sweep removes entries and changes none (46_tracker R339). -/
theorem State.sweep_tracksOk {s : State} (t : U64) (hs : TracksOk s) : TracksOk (s.sweep t).1 where
  order := hs.order.filter _
  slots e he := hs.slots e (State.sweep_mem he)
  unique := hs.unique.filter _
  positions e he := hs.positions e (State.sweep_mem he)

/-- The updated track goes into the one slot that its address can have. -/
theorem SlotFor.putTrack_tracksOk {s : State} {c : U24} {i : Nat} {a : Track} (h : SlotFor s c i a) (hs : TracksOk s)
    (p : Payload) : TracksOk (s.putTrack i (updateTrack s.cprEnv a p)) := by
  have haddress : (updateTrack s.cprEnv a p).1.icao = c := (updateTrack_icao s a p).trans h.address
  refine ⟨?order, ?slots, ?unique, ?positions⟩ <;> rw [State.putTrack_tracks]
  case order => exact Sparse.put_wf _ _ hs.order
  case slots =>
    intro e he
    rcases Sparse.mem_put he with rfl | he
    · exact h.inTable
    · exact hs.slots e he
  case unique =>
    refine Sparse.put_pairwise (fun _ _ => Ne.symm) hs.order hs.unique fun e he hne => ?_
    rw [haddress]
    exact (h.others e he hne).symm
  case positions =>
    intro e he
    rcases Sparse.mem_put he with rfl | he
    · exact updateTrack_positionInRange s p h.position
    · exact hs.positions e he

theorem State.trackUpdate_tracksOk {s : State} (m : Message) (hs : TracksOk s) : TracksOk (s.trackUpdate m) := by
  rcases State.trackUpdate_slotFor m hs with ⟨i, a, hslot, hu⟩ | hu <;> rw [hu]
  · exact hslot.putTrack_tracksOk hs _
  · exact hs.congr rfl

theorem CommandCase.tracksOk {s t : State} (h : CommandCase s t) (hs : TracksOk s) : TracksOk t := by
  cases h with
  | resets => exact s.resetKeepingRam_tracksOk.congr rfl
  | sweeps t =>
    have hlater : TracksOk { s with regs := { s.regs with lastTime := t } } := hs.congr rfl
    exact (State.sweep_tracksOk t hlater).congr rfl
  | _ => exact hs.congr rfl

theorem PipelineCase.tracksOk {s t : State} (h : PipelineCase s t) (hs : TracksOk s) : TracksOk t := by
  cases h with
  | idle => exact hs
  | cancels => exact hs.congr rfl
  | skips => exact hs.congr (by simp)
  | rejects u c _ _ hu => exact hs.congr (by simp [hu.tracks])
  | accepts u v m _ _ hu hv =>
    have hprepared : TracksOk v := hs.congr (hv.tracks.trans hu.tracks)
    exact (State.trackUpdate_tracksOk m hprepared).congr (v.accept_tracks m)

/-- Settles O56: an acceptance puts a track with its own address into the slot of that address, or into a free one when no
slot has it, a position set passed its range check, and SWEEP and RESET only remove. -/
theorem tracksStayUnique : Obligations.TracksStayUnique :=
  step_keeps (fun _ hs => hs.congr rfl) (fun _ _ hs h => h.tracksOk hs) (fun _ _ hs h => h.tracksOk hs)

/-! ### Messages without a position -/

theorem State.trackUpdate_slotUpdated_scalars {s : State} {m : Message} {i : Nat} {a : Track}
    (hfind : findTrack s.tracks m.icao = some (i, a)) (hlat : m.payload.cprLat = none) :
    SlotUpdated s (s.trackUpdate m) i (scalarsUpdated a m.payload s.scan.now, []) := by
  rw [State.trackUpdate, hfind, ← updateTrack_noPosition s a _ hlat]
  exact s.putTrack_slotUpdated ..

theorem State.trackUpdate_slotUpdated_createdScalars {s : State} {m : Message} {i : Nat}
    (hfind : findTrack s.tracks m.icao = none) (hfree : freeSlot s.tracks = some i)
    (hlat : m.payload.cprLat = none) :
    SlotUpdated s (s.trackUpdate m) i (scalarUpdate (newTrack m.icao s.scan.now) m.payload s.scan.now, []) := by
  rw [State.trackUpdate, hfind, hfree, scalarUpdate_eq, ← updateTrack_noPosition s _ _ hlat]
  exact s.putTrack_slotUpdated ..

/-- Settles O43: SCALAR_UPDATE of the slot found, or of a new track, whose absent fields leave the message's own. -/
theorem trackUpdateWithoutPosition : Obligations.TrackUpdateWithoutPosition := by
  refine fun s m htracks hlat => ⟨?found, ?created, ?full⟩
  case found =>
    intro i a hmem hicao
    obtain ⟨hslot, hothers, _⟩ :=
      State.trackUpdate_slotUpdated_scalars (hicao ▸ findTrack_of_mem htracks.unique hmem) hlat
    exact ⟨hslot, hothers⟩
  case created =>
    intro hnew i hi hfree hlower
    obtain ⟨hslot, hothers, _⟩ := State.trackUpdate_slotUpdated_createdScalars (findTrack_eq_none hnew)
      (freeSlot_eq_some hi hfree hlower) hlat
    refine ⟨⟨_, hslot, rfl, rfl, rfl, rfl, rfl, rfl, rfl, ?_⟩, hothers⟩
    simp only [scalarUpdate, newTrack, Option.or_none, and_self]
  case full =>
    intro hnew hall
    rw [State.trackUpdate_full (findTrack_eq_none hnew) (freeSlot_eq_none hall)]
    rfl

/-! ### No track is removed -/

/-- Every valid slot of s is valid in t, with the same address (46_tracker R337). -/
def SlotsKept (s t : State) : Prop :=
  ∀ k a, Sparse.lookup s.tracks k = some a → ∃ u, Sparse.lookup t.tracks k = some u ∧ u.icao = a.icao

theorem SlotsKept.of_eq {s t : State} (h : t.tracks = s.tracks) : SlotsKept s t :=
  fun _ a ha => ⟨a, h ▸ ha, rfl⟩

theorem State.trackUpdate_slotsKept {s : State} (m : Message) (hs : TracksOk s) : SlotsKept s (s.trackUpdate m) := by
  rcases State.trackUpdate_slotFor m hs with ⟨i, a, hslot, hu⟩ | hu <;> rw [hu]
  · obtain ⟨hupdated, hothers, _⟩ := s.putTrack_slotUpdated i (updateTrack s.cprEnv a m.payload)
    intro k b hb
    by_cases hk : k = i
    · subst hk
      exact ⟨_, hupdated, (updateTrack_icao ..).trans (hslot.address.trans (hslot.current b hb).symm)⟩
    · exact ⟨b, (hothers k hk).trans hb, rfl⟩
  · exact .of_eq rfl

/-- A frame that is accepted updates the table as it stood before its attempt, and one that is rejected leaves it. -/
theorem EndsAttempt.slotsKept {s t : State} (h : EndsAttempt s (.next t)) (hs : TracksOk s) : SlotsKept s t := by
  rcases h with ⟨u, m, hu, _, _, _, ht⟩ | ⟨c, ht⟩ <;> cases ht
  · have hkept := State.trackUpdate_slotsKept m (hs.congr hu.tracks)
    rwa [SlotsKept, hu.tracks, ← State.accept_tracks] at hkept
  · exact .of_eq (s.reject_tracks c)

/-! The commands other than RESET and SWEEP leave the whole table. -/

/-- What follows r, if it is a next state, has the track table of s. -/
def KeepsTracks (s : State) (r : Result) : Prop := ∀ t, r = .next t → t.tracks = s.tracks

theorem KeepsTracks.next {s u : State} (h : u.tracks = s.tracks) : KeepsTracks s (.next u) := by
  rintro _ ⟨⟩
  exact h

theorem KeepsTracks.fault (s : State) (e : Fault) : KeepsTracks s (.fault e) := by
  rintro _ ⟨⟩

theorem KeepsTracks.error (s : State) (e : Status) : KeepsTracks s (cmdError s e) := .next rfl

theorem KeepsTracks.ok {s u : State} (v : U64) (h : u.tracks = s.tracks) : KeepsTracks s (cmdOk u v) := .next h

/-- A check, and then the rest of the command. -/
theorem KeepsTracks.check {s : State} {c : Prop} [Decidable c] {e : Status} {rest : Result} (h : KeepsTracks s rest) :
    KeepsTracks s (if c then cmdError s e else rest) := by
  split
  · exact .error s e
  · exact h

theorem KeepsTracks.whenIdle {s : State} {body : Result} (h : KeepsTracks s body) :
    KeepsTracks s (Machine.whenIdle s body) := .check h

theorem execRegWrite_keepsTracks (sel : BitVec 8) (a : U64) (s : State) : KeepsTracks s (execRegWrite sel a s) := by
  refine .whenIdle ?_
  split
  · exact .error s _
  · exact .check (.check (.ok _ rfl))

theorem execRegRead_keepsTracks (sel : BitVec 8) (s : State) : KeepsTracks s (execRegRead sel s) := by
  unfold execRegRead
  split
  · exact .error s _
  · exact .ok _ rfl

theorem execSampleWrite_keepsTracks (a b : U64) (s : State) : KeepsTracks s (execSampleWrite a b s) :=
  .whenIdle (.check (.check (.ok _ rfl)))

theorem execSampleRead_keepsTracks (a : U64) (s : State) : KeepsTracks s (execSampleRead a s) := by
  refine .check ?_
  split
  · exact .fault s _
  · exact .ok _ rfl

theorem execProcess_keepsTracks (a b : U64) (s : State) : KeepsTracks s (execProcess a b s) := by
  refine .whenIdle (.check (.check (.check ?_)))
  split
  · exact .fault s _
  · exact .ok _ rfl

theorem execCancel_keepsTracks (s : State) : KeepsTracks s (execCancel s) := by
  refine .ok _ ?_
  split <;> rfl

theorem execMsgPop_keepsTracks (s : State) : KeepsTracks s (execMsgPop s) := by
  unfold execMsgPop
  split <;> exact .next rfl

theorem execTrackRead_keepsTracks (a : U64) (s : State) : KeepsTracks s (execTrackRead a s) := by
  refine .check ?_
  split <;> exact .next rfl

theorem execTrackSlot_keepsTracks (a : U64) (s : State) : KeepsTracks s (execTrackSlot a s) := by
  refine .check ?_
  split <;> exact .next rfl

theorem execCacheInsert_keepsTracks (a b : U64) (s : State) : KeepsTracks s (execCacheInsert a b s) :=
  .whenIdle (.check (.ok _ rfl))

theorem execCacheQuery_keepsTracks (a b : U64) (s : State) : KeepsTracks s (execCacheQuery a b s) :=
  .check (.ok _ rfl)

theorem exec_keepsTracks_of_isCommand {i : Instr} (s : State) (hi : isCommand i) (hreset : i ≠ .reset)
    (hsweep : ∀ b, i ≠ .sweep b) : KeepsTracks s (exec i s) := by
  cases i with
  | nop => exact .ok _ rfl
  | reset => exact absurd rfl hreset
  | regWrite sel a => exact execRegWrite_keepsTracks sel a s
  | regRead sel => exact execRegRead_keepsTracks sel s
  | sampleWrite a b => exact execSampleWrite_keepsTracks a b s
  | sampleRead a => exact execSampleRead_keepsTracks a s
  | process a b => exact execProcess_keepsTracks a b s
  | cancel => exact execCancel_keepsTracks s
  | sweep b => exact absurd rfl (hsweep b)
  | msgPop => exact execMsgPop_keepsTracks s
  | trackRead a => exact execTrackRead_keepsTracks a s
  | trackSlot a => exact execTrackSlot_keepsTracks a s
  | cacheInsert a b => exact execCacheInsert_keepsTracks a b s
  | cacheQuery a b => exact execCacheQuery_keepsTracks a b s
  | reservedCmd w => exact .error s _
  | _ =>
    obtain ⟨_, _, _, hencode⟩ := hi
    cases hencode

/-- Settles O51: a command but RESET and SWEEP leaves the table, and a frame ends in an acceptance, which updates the slot
of its own address, or in a rejection. -/
theorem onlySweepRemovesTracks : Obligations.OnlySweepRemovesTracks := by
  intro i s t hs h hreset hsweep
  rcases exec_command_or_ends i s with hcommand | hends
  · exact SlotsKept.of_eq (exec_keepsTracks_of_isCommand s hcommand hreset hsweep t h)
  · rw [h] at hends
    exact hends.slotsKept hs

end Sys2Proof.Machine

/-! How every host command ends (47_commands R360, R375, 60_exceptions R391): with an error that it raises itself or that
the busy rule raises, with an effect of its own and a response, or with a fault. The rules about all commands follow. -/

namespace Sys2Proof.Machine

/-! ### The endings of a command -/

/-- A command that answers this status succeeded (60_exceptions R391). -/
abbrev Status.IsSuccess (r : Status) : Prop := r = .ok ∨ r = .none

/-- An error that a command's own checks can raise. -/
abbrev Status.IsCheckError (r : Status) : Prop := ¬r.IsSuccess ∧ r ≠ .errBusy

/-- The commands that are not accepted while BUSY = 1 (47_commands R375). -/
inductive RefusedWhileBusy : Instr → Prop
  | regWrite (sel : BitVec 8) (a : U64) : RefusedWhileBusy (.regWrite sel a)
  | sampleWrite (a b : U64) : RefusedWhileBusy (.sampleWrite a b)
  | process (a b : U64) : RefusedWhileBusy (.process a b)
  | sweep (b : U64) : RefusedWhileBusy (.sweep b)
  | cacheInsert (a b : U64) : RefusedWhileBusy (.cacheInsert a b)

/-- What a command that succeeds can make of the state, its response aside (47_commands R361 to R374). -/
inductive CommandEffect (s : State) : Instr → State → Prop
  | nothing (i : Instr) : CommandEffect s i s
  | resets : CommandEffect s .reset s.resetKeepingRam
  | writesRegister (sel : BitVec 8) (a : U64) (g : Reg) :
      CommandEffect s (.regWrite sel a) { s with regs := s.regs.write g a }
  | writesSample (a b : U64) : CommandEffect s (.sampleWrite a b) (s.writeSample a.toNat (byteOf b))
  | starts (a b : U64) (ms : List (BitVec 16)) : CommandEffect s (.process a b) (s.startProcess ms (a.toNat / 2) b)
  | requestsCancel : CommandEffect s .cancel { s with status := { s.status with cancelReq := true } }
  | sweeps (b : U64) : CommandEffect s (.sweep b) (State.sweep { s with regs := { s.regs with lastTime := b } } b).1
  | pops (rest : List Message) : CommandEffect s .msgPop { s with fifo := rest }
  | inserts (a b : U64) : CommandEffect s (.cacheInsert a b) (s.cacheInsert ((addressOf a).setWidth 32) b)

/-- How command i ends at s; ERR_BUSY comes only from a command that can be refused while busy. -/
inductive CommandEnds (s : State) (i : Instr) : Result → Prop
  | raises (e : Status) (error : ¬e.IsSuccess) (refused : e = .errBusy → RefusedWhileBusy i) :
      CommandEnds s i (.next (s.raise e))
  | completes (u : State) (r : Status) (v : U64) (o : Option RspRecord) (success : r.IsSuccess)
      (effect : CommandEffect s i u) : CommandEnds s i (.next (u.respond r v o))
  | stops (e : Fault) : CommandEnds s i (.fault e)

section Endings

variable {s u : State} {i : Instr} {e : Status}

theorem CommandEnds.error (he : e.IsCheckError) : CommandEnds s i (cmdError s e) :=
  .raises e he.1 fun h => absurd h he.2

/-- A check, and then the rest of the command. -/
theorem CommandEnds.check {c : Prop} [Decidable c] {rest : Result} (he : e.IsCheckError) (h : CommandEnds s i rest) :
    CommandEnds s i (if c then cmdError s e else rest) := by
  split
  · exact .error he
  · exact h

theorem CommandEnds.ok (v : U64) (h : CommandEffect s i u) : CommandEnds s i (cmdOk u v) :=
  .completes u .ok v none (.inl rfl) h

/-- A command that only answers. -/
theorem CommandEnds.answer {r : Status} (v : U64) (o : Option RspRecord) (hr : r.IsSuccess) :
    CommandEnds s i (.next (s.respond r v o)) :=
  .completes s r v o hr (.nothing i)

theorem CommandEnds.whenIdle {body : Result} (hi : RefusedWhileBusy i) (h : CommandEnds s i body) :
    CommandEnds s i (Machine.whenIdle s body) := by
  rcases whenIdle_cases s body with ⟨_, hw⟩ | ⟨_, hw⟩ <;> rw [hw]
  · exact .raises _ (by decide) fun _ => hi
  · exact h

end Endings

/-! ### The ending of each command -/

theorem execRegWrite_ends (sel : BitVec 8) (a : U64) (s : State) :
    CommandEnds s (.regWrite sel a) (execRegWrite sel a s) := by
  refine .whenIdle (.regWrite sel a) ?_
  split
  · exact .error (by decide)
  · next g _ => exact .check (by decide) (.check (by decide) (.ok 0 (.writesRegister sel a g)))

theorem execRegRead_ends (sel : BitVec 8) (s : State) : CommandEnds s (.regRead sel) (execRegRead sel s) := by
  unfold execRegRead
  split
  · exact .error (by decide)
  · exact .ok _ (.nothing _)

theorem execSampleWrite_ends (a b : U64) (s : State) : CommandEnds s (.sampleWrite a b) (execSampleWrite a b s) :=
  .whenIdle (.sampleWrite a b) (.check (by decide) (.check (by decide) (.ok 0 (.writesSample a b))))

theorem execSampleRead_ends (a : U64) (s : State) : CommandEnds s (.sampleRead a) (execSampleRead a s) := by
  refine .check (by decide) ?_
  split
  · exact .stops _
  · exact .ok _ (.nothing _)

theorem execProcess_ends (a b : U64) (s : State) : CommandEnds s (.process a b) (execProcess a b s) := by
  refine .whenIdle (.process a b) (.check (by decide) (.check (by decide) (.check (by decide) ?_)))
  split
  · exact .stops _
  · next ms _ => exact .ok 0 (.starts a b ms)

theorem execCancel_ends (s : State) : CommandEnds s .cancel (execCancel s) := by
  refine .ok 0 ?_
  split
  · exact .requestsCancel
  · exact .nothing _

theorem execSweep_ends (b : U64) (s : State) : CommandEnds s (.sweep b) (execSweep b s) :=
  .whenIdle (.sweep b) (.check (by decide) (.ok _ (.sweeps b)))

theorem execMsgPop_ends (s : State) : CommandEnds s .msgPop (execMsgPop s) := by
  unfold execMsgPop
  split
  · exact .answer 0 none (.inr rfl)
  · next m rest _ => exact .completes _ .ok 0 (some (.message m)) (.inl rfl) (.pops rest)

theorem execTrackRead_ends (a : U64) (s : State) : CommandEnds s (.trackRead a) (execTrackRead a s) := by
  refine .check (by decide) ?_
  split
  · exact .answer 0 _ (.inl rfl)
  · exact .answer 0 none (.inr rfl)

theorem execTrackSlot_ends (a : U64) (s : State) : CommandEnds s (.trackSlot a) (execTrackSlot a s) := by
  refine .check (by decide) ?_
  split
  · exact .answer 0 _ (.inl rfl)
  · exact .answer 0 none (.inr rfl)

theorem execCacheInsert_ends (a b : U64) (s : State) : CommandEnds s (.cacheInsert a b) (execCacheInsert a b s) :=
  .whenIdle (.cacheInsert a b) (.check (by decide) (.ok 0 (.inserts a b)))

theorem execCacheQuery_ends (a b : U64) (s : State) : CommandEnds s (.cacheQuery a b) (execCacheQuery a b s) :=
  .check (by decide) (.ok _ (.nothing _))

/-- Every host command ends in one of the three ways. -/
theorem exec_commandEnds {i : Instr} (s : State) (hi : isCommand i) : CommandEnds s i (exec i s) := by
  cases i with
  | nop => exact .ok 0 (.nothing _)
  | reset => exact .ok 0 .resets
  | regWrite sel a => exact execRegWrite_ends sel a s
  | regRead sel => exact execRegRead_ends sel s
  | sampleWrite a b => exact execSampleWrite_ends a b s
  | sampleRead a => exact execSampleRead_ends a s
  | process a b => exact execProcess_ends a b s
  | cancel => exact execCancel_ends s
  | sweep b => exact execSweep_ends b s
  | msgPop => exact execMsgPop_ends s
  | trackRead a => exact execTrackRead_ends a s
  | trackSlot a => exact execTrackSlot_ends a s
  | cacheInsert a b => exact execCacheInsert_ends a b s
  | cacheQuery a b => exact execCacheQuery_ends a b s
  | reservedCmd w => exact .error (by decide)
  | _ =>
    obtain ⟨_, _, _, hencode⟩ := hi
    cases hencode

/-! ### The busy rule (47_commands R375) -/

theorem whenIdle_of_busy {s : State} (h : s.status.busy = true) (body : Result) :
    whenIdle s body = .next (failed s .errBusy 0x11) :=
  if_pos h

theorem whenIdle_of_idle {s : State} (h : s.status.busy = false) (body : Result) : whenIdle s body = body :=
  if_neg (by simp [h])

theorem refusedWhileBusy_cases {i : Instr} (h : RefusedWhileBusy i) :
    (∃ sel a, i = .regWrite sel a) ∨ (∃ a b, i = .sampleWrite a b) ∨ (∃ a b, i = .process a b) ∨
      (∃ b, i = .sweep b) ∨ ∃ a b, i = .cacheInsert a b := by
  cases h with
  | regWrite sel a => exact .inl ⟨sel, a, rfl⟩
  | sampleWrite a b => exact .inr (.inl ⟨a, b, rfl⟩)
  | process a b => exact .inr (.inr (.inl ⟨a, b, rfl⟩))
  | sweep b => exact .inr (.inr (.inr (.inl ⟨b, rfl⟩)))
  | cacheInsert a b => exact .inr (.inr (.inr (.inr ⟨a, b, rfl⟩)))

/-- An answer of ERR_BUSY is the busy rule's: no check raises it, and it is no success. -/
theorem refusedWhileBusy_of_errBusy {i : Instr} {s t : State} (hi : isCommand i) (h : exec i s = .next t)
    (hbusy : t.rsp.status = .errBusy) : RefusedWhileBusy i := by
  have hends := exec_commandEnds s hi
  rw [h] at hends
  cases hends with
  | raises e _ hrefused => exact hrefused hbusy
  | completes u r v o hsuccess =>
    obtain rfl : r = .errBusy := hbusy
    exact absurd hsuccess (by decide)

/-- Settles O24: the five commands run under the busy rule, which is the only source of ERR_BUSY. -/
theorem busyRule : Obligations.BusyRule := fun _ hbusy =>
  ⟨fun _ _ => whenIdle_of_busy hbusy _, fun _ _ => whenIdle_of_busy hbusy _, fun _ _ => whenIdle_of_busy hbusy _,
    fun _ => whenIdle_of_busy hbusy _, fun _ _ => whenIdle_of_busy hbusy _,
    fun _ _ hi h herr => refusedWhileBusy_cases (refusedWhileBusy_of_errBusy hi h herr)⟩

/-! ### Failures and successes (47_commands R360) -/

theorem CommandEffect.lastErr {s u : State} {i : Instr} (h : CommandEffect s i u) (hreset : i ≠ .reset) :
    u.status.lastErr = s.status.lastErr := by
  cases h with
  | resets => exact absurd rfl hreset
  | _ => rfl

/-- Settles O25: an error is raised on the state the command started from, and no effect but RESET's writes LAST_ERR. -/
theorem failedCommandsChangeNothingElse : Obligations.FailedCommandsChangeNothingElse := by
  intro i s t hi h
  have hends := exec_commandEnds s hi
  rw [h] at hends
  cases hends with
  | raises e herror => exact ⟨fun _ _ => rfl, fun hsuccess => absurd hsuccess herror⟩
  | completes u r v o hsuccess heffect =>
    exact ⟨fun hok hnone => absurd hsuccess (not_or.2 ⟨hok, hnone⟩), fun _ hreset => heffect.lastErr hreset⟩

/-! ### The writers of sample RAM, of the configuration and of LAST_TIME -/

theorem CommandEffect.ram {s u : State} {i : Instr} (h : CommandEffect s i u) (hi : ∀ a b, i ≠ .sampleWrite a b) :
    u.ram = s.ram := by
  cases h with
  | writesSample a b => exact absurd rfl (hi a b)
  | _ => rfl

theorem CommandEffect.configuration {s u : State} {i : Instr} (h : CommandEffect s i u)
    (hi : ∀ sel a, i ≠ .regWrite sel a) (hreset : i ≠ .reset) :
    u.regs = { s.regs with lastTime := u.regs.lastTime } := by
  cases h with
  | writesRegister sel a => exact absurd rfl (hi sel a)
  | resets => exact absurd rfl hreset
  | _ => rfl

theorem CommandEffect.lastTime {s u : State} {i : Instr} (h : CommandEffect s i u) (hi : ∀ a b, i ≠ .process a b)
    (hsweep : ∀ b, i ≠ .sweep b) (hreset : i ≠ .reset) : u.regs.lastTime = s.regs.lastTime := by
  cases h with
  | starts a b => exact absurd rfl (hi a b)
  | sweeps b => exact absurd rfl (hsweep b)
  | resets => exact absurd rfl hreset
  | writesRegister _ a g => exact Regs.write_lastTime s.regs g a
  | _ => rfl

/-- A decode attempt writes neither registers nor sample RAM (41_preamble R186). -/
theorem EndsAttempt.keeps_regs_ram {s t : State} (h : EndsAttempt s (.next t)) : t.regs = s.regs ∧ t.ram = s.ram := by
  rcases h with ⟨u, m, hu, _, _, _, ht⟩ | ⟨c, ht⟩ <;> cases ht
  · exact ⟨(u.accept_regs m).trans hu.regs, (u.accept_ram m).trans hu.ram⟩
  · exact ⟨s.reject_regs c, s.reject_ram c⟩

theorem readSample_congr {s t : State} (h : t.ram = s.ram) (x : Nat) : t.readSample x = s.readSample x := by
  rw [State.readSample, h, State.readSample]

/-- Settles O49: an error keeps all three, each effect of a command writes only its own, and a frame none. -/
theorem onlyTheirCommandsWrite : Obligations.OnlyTheirCommandsWrite := by
  intro i s t h
  rcases exec_command_or_ends i s with hcommand | hends
  · have hends := exec_commandEnds s hcommand
    rw [h] at hends
    cases hends with
    | raises e => exact ⟨fun _ _ => rfl, fun _ _ => rfl, fun _ _ _ => rfl⟩
    | completes u r v o _ heffect =>
      exact ⟨fun hi => readSample_congr (heffect.ram hi), heffect.configuration, heffect.lastTime⟩
  · rw [h] at hends
    obtain ⟨hregs, hram⟩ := hends.keeps_regs_ram
    exact ⟨fun _ => readSample_congr hram, fun _ _ => by rw [hregs], fun _ _ _ => by rw [hregs]⟩

end Sys2Proof.Machine

/-! What each host command does (47_commands R361 to R371), by its checks and then its effect. -/

namespace Sys2Proof.Machine

/-! ### Commands without checks -/

/-- Settles O10: NOP is an answer alone. -/
theorem nopOnlyAnswers : Obligations.NopOnlyAnswers := fun _ => rfl

theorem Counters.value_reset (c : Cnt) : Counters.value State.reset.counters c = 0 := by
  simp [Counters.value, State.reset]

/-- Settles O11: RESET is the reset state with sample RAM and the schedule kept. -/
theorem resetSetsResetValues : Obligations.ResetSetsResetValues := fun s =>
  ⟨s.resetKeepingRam.respond .ok 0 none, rfl, rfl, rfl, rfl, Counters.value_reset, fun _ => rfl, fun _ => rfl, rfl, rfl,
    rfl, fun _ => rfl⟩

theorem execCancel_busy {s : State} (h : s.status.busy = true) :
    exec .cancel s = .next { answered s .ok 0 none with status := { s.status with cancelReq := true } } := by
  change execCancel s = _
  rw [execCancel, if_pos h]
  rfl

theorem execCancel_idle {s : State} (h : s.status.busy = false) : exec .cancel s = .next (answered s .ok 0 none) := by
  change execCancel s = _
  rw [execCancel, if_neg (by simp [h])]
  rfl

/-- Settles O18: a second CANCEL requests what is already requested, and the pipeline's next step finds the request. -/
theorem cancelRequestsCancellation : Obligations.CancelRequestsCancellation := by
  refine fun s => ⟨execCancel_busy, execCancel_idle, fun t h => ?_⟩
  cases hbusy : s.status.busy with
  | true =>
    cases (execCancel_busy hbusy).symm.trans h
    refine ⟨execCancel_busy hbusy, fun hturn _ => ?_⟩
    exact ⟨_, cancellationEndsTheRun _ hturn hbusy rfl, rfl, rfl⟩
  | false =>
    cases (execCancel_idle hbusy).symm.trans h
    exact ⟨execCancel_idle hbusy, fun _ h => nomatch h⟩

/-- Settles O20: MSG_POP's two cases are those of the FIFO. -/
theorem msgPopTakesTheOldest : Obligations.MsgPopTakesTheOldest := by
  refine fun s => ⟨fun h => ?_, fun m rest h => ?_⟩ <;>
    · change execMsgPop s = _
      rw [execMsgPop, h]
      rfl

/-! ### REG_WRITE (47_commands R362) -/

/-- The read-only registers are those with selector 0 or above 5 (10_state R40). -/
theorem not_writable_of_selector {sel : BitVec 8} {g : Reg} (hsel : sel = 0 ∨ 5 < sel.toNat) (h : regOf sel = some g) :
    g.writable = false := by
  rcases hsel with rfl | hsel
  · cases h; rfl
  · unfold regOf at h
    split at h
    case h_1 | h_2 | h_3 | h_4 | h_5 | h_6 => omega
    case h_7 | h_8 | h_9 | h_10 | h_11 | h_12 => cases h; rfl
    case h_13 => split at h <;> cases h; rfl

theorem execRegWrite_badSelector {sel : BitVec 8} {a : U64} {s : State} (hidle : s.status.busy = false)
    (hsel : sel = 0 ∨ 5 < sel.toNat) : exec (.regWrite sel a) s = .next (failed s .errBadReg 0x12) := by
  refine (whenIdle_of_idle hidle _).trans ?_
  cases hreg : regOf sel with
  | none => rfl
  | some g => exact if_pos (by simp [not_writable_of_selector hsel hreg])

theorem execRegWrite_illegal {sel : BitVec 8} {a : U64} {s : State} {g : Reg} (hidle : s.status.busy = false)
    (hreg : regOf sel = some g) (hw : g.writable = true) (hl : g.legal a = false) :
    exec (.regWrite sel a) s = .next (failed s .errBadValue 0x13) := by
  refine (whenIdle_of_idle hidle _).trans ?_
  simp only [hreg, hw, hl]
  rfl

theorem execRegWrite_legal {sel : BitVec 8} {a : U64} {s : State} {g : Reg} (hidle : s.status.busy = false)
    (hreg : regOf sel = some g) (hw : g.writable = true) (hl : g.legal a = true) :
    exec (.regWrite sel a) s = .next { s with regs := s.regs.write g a, rsp := ⟨.ok, 0, none⟩ } := by
  refine (whenIdle_of_idle hidle _).trans ?_
  simp only [hreg, hw, hl]
  rfl

/-- A selector names this writable register, whose legal values and whose write are as 10_state R41 to R44 say. -/
structure NamesWritable (sel : BitVec 8) (g : Reg) : Prop where
  named : regOf sel = some g
  writable : g.writable = true
  legal_iff : ∀ a, g.legal a = true ↔ LegalRegValue sel a
  write_eq : ∀ (r : Regs) (a : U64), r.write g a =
    ⟨if sel = 1 then a else r.ctrl, if sel = 2 then a else r.homeLat, if sel = 3 then a else r.homeLon,
      if sel = 4 then a else r.maxRangeM, if sel = 5 then a else r.trackTtlMs, r.lastTime⟩

theorem namesWritable_ctrl : NamesWritable 1 .ctrl where
  named := rfl
  writable := rfl
  legal_iff a := by simp [Reg.legal, LegalRegValue, extractLsb'_high_eq_zero_iff (k := 3) (len := 61) a rfl]
  write_eq _ _ := rfl

theorem namesWritable_homeLat : NamesWritable 2 .homeLat where
  named := rfl
  writable := rfl
  legal_iff a := (degreesOk_90_iff a).trans (by simp [LegalRegValue, F64.abs])
  write_eq _ _ := rfl

theorem namesWritable_homeLon : NamesWritable 3 .homeLon where
  named := rfl
  writable := rfl
  legal_iff a := (degreesOk_180_iff a).trans (by simp [LegalRegValue, F64.abs])
  write_eq _ _ := rfl

theorem namesWritable_maxRangeM : NamesWritable 4 .maxRangeM where
  named := rfl
  writable := rfl
  legal_iff a := by simp [Reg.legal, LegalRegValue, extractLsb'_high_eq_zero_iff (k := 32) (len := 32) a rfl]
  write_eq _ _ := rfl

theorem namesWritable_trackTtlMs : NamesWritable 5 .trackTtlMs where
  named := rfl
  writable := rfl
  legal_iff a := by
    have hpos : a ≠ 0#64 ↔ 0 < a.toNat := by
      rw [Nat.pos_iff_ne_zero, ne_eq, ne_eq, ← BitVec.toNat_inj]
      rfl
    simp only [Reg.legal, LegalRegValue, Bool.and_eq_true, beq_iff_eq, bne_iff_ne, hpos,
      extractLsb'_high_eq_zero_iff (k := 32) (len := 32) a rfl]
    simp [and_comm]
  write_eq _ _ := rfl

theorem exists_namesWritable {sel : BitVec 8} (h0 : sel ≠ 0) (h5 : sel.toNat ≤ 5) : ∃ g, NamesWritable sel g := by
  have hcases : sel = 1 ∨ sel = 2 ∨ sel = 3 ∨ sel = 4 ∨ sel = 5 := by bv_omega
  rcases hcases with rfl | rfl | rfl | rfl | rfl
  exacts [⟨_, namesWritable_ctrl⟩, ⟨_, namesWritable_homeLat⟩, ⟨_, namesWritable_homeLon⟩,
    ⟨_, namesWritable_maxRangeM⟩, ⟨_, namesWritable_trackTtlMs⟩]

/-- Only a writable register has legal values. -/
theorem selector_of_legal {sel : BitVec 8} {a : U64} (h : LegalRegValue sel a) : sel ≠ 0 ∧ sel.toNat ≤ 5 := by
  rcases h with ⟨rfl, _⟩ | ⟨rfl, _⟩ | ⟨rfl, _⟩ | ⟨rfl, _⟩ | ⟨rfl, _⟩ <;> decide

/-- Settles O12: the selector decides whether a register is writable, and its own rule whether the value is legal. -/
theorem regWriteFollowsItsRule : Obligations.RegWriteFollowsItsRule := by
  refine fun _ a s hidle => ⟨execRegWrite_badSelector hidle, fun h0 h5 hillegal => ?_, fun hlegal => ?_⟩
  · obtain ⟨g, hnamed, hwritable, hiff, _⟩ := exists_namesWritable h0 h5
    exact execRegWrite_illegal hidle hnamed hwritable (by rwa [← hiff, Bool.not_eq_true] at hillegal)
  · obtain ⟨h0, h5⟩ := selector_of_legal hlegal
    obtain ⟨g, hnamed, hwritable, hiff, hwrite⟩ := exists_namesWritable h0 h5
    rw [execRegWrite_legal hidle hnamed hwritable ((hiff a).2 hlegal), hwrite]

/-! ### SAMPLE_WRITE and SAMPLE_READ (47_commands R364, R365) -/

theorem sampleAddrOk_iff (a : U64) : sampleAddrOk a = true ↔ a.toNat < 262622 := decide_eq_true_iff

theorem sampleAddrOk_eq_false {a : U64} (h : 262622 ≤ a.toNat) : sampleAddrOk a = false := by
  rw [Bool.eq_false_iff, ne_eq, sampleAddrOk_iff]
  omega

theorem byteOk_eq_false {b : U64} (h : 256 ≤ b.toNat) : byteOk b = false := by
  rw [Bool.eq_false_iff, ne_eq, byteOk_iff]
  omega

theorem execSampleWrite_badAddress {a b : U64} {s : State} (hidle : s.status.busy = false) (ha : 262622 ≤ a.toNat) :
    exec (.sampleWrite a b) s = .next (failed s .errAddr 0x14) := by
  refine (whenIdle_of_idle hidle _).trans ?_
  rw [sampleAddrOk_eq_false ha]
  rfl

theorem execSampleWrite_badValue {a b : U64} {s : State} (hidle : s.status.busy = false) (ha : a.toNat < 262622)
    (hb : 256 ≤ b.toNat) : exec (.sampleWrite a b) s = .next (failed s .errBadValue 0x13) := by
  refine (whenIdle_of_idle hidle _).trans ?_
  rw [(sampleAddrOk_iff a).2 ha, byteOk_eq_false hb]
  rfl

theorem execSampleWrite_writes {a b : U64} {s : State} (hidle : s.status.busy = false) (ha : a.toNat < 262622)
    (hb : b.toNat < 256) :
    exec (.sampleWrite a b) s = .next ((s.writeSample a.toNat (BitVec.ofNat 8 b.toNat)).respond .ok 0 none) := by
  refine (whenIdle_of_idle hidle _).trans ?_
  rw [(sampleAddrOk_iff a).2 ha, (byteOk_iff b).2 hb, byteOf_eq]
  rfl

/-- Settles O14: the checks in their order, and then the memory's one write. -/
theorem sampleWriteStoresOneByte : Obligations.SampleWriteStoresOneByte := fun _ _ s hidle =>
  ⟨execSampleWrite_badAddress hidle, execSampleWrite_badValue hidle, fun ha hb =>
    ⟨_, execSampleWrite_writes hidle ha hb, rfl, s.readSample_writeSample_same _ _,
      fun _ hx => s.readSample_writeSample_other _ hx⟩⟩

theorem execSampleRead_badAddress {a : U64} {s : State} (ha : 262622 ≤ a.toNat) :
    exec (.sampleRead a) s = .next (failed s .errAddr 0x14) := by
  change execSampleRead a s = _
  rw [execSampleRead, sampleAddrOk_eq_false ha]
  rfl

theorem execSampleRead_written {a : U64} {s : State} {v : Byte} (ha : a.toNat < 262622)
    (h : s.readSample a.toNat = some v) :
    exec (.sampleRead a) s = .next (answered s .ok (BitVec.ofNat 64 v.toNat) none) := by
  change execSampleRead a s = _
  rw [execSampleRead, (sampleAddrOk_iff a).2 ha, h, BitVec.ofNat_toNat]
  rfl

theorem execSampleRead_unwritten {a : U64} {s : State} (ha : a.toNat < 262622) (h : s.readSample a.toNat = none) :
    exec (.sampleRead a) s = .fault (.unwrittenSample a.toNat) := by
  change execSampleRead a s = _
  rw [execSampleRead, (sampleAddrOk_iff a).2 ha, h]
  rfl

/-- Settles O15: the address check, and then the byte's written mark. -/
theorem sampleReadAnswersTheByte : Obligations.SampleReadAnswersTheByte := fun _ _ =>
  ⟨execSampleRead_badAddress, fun ha => ⟨fun _ => execSampleRead_written ha, execSampleRead_unwritten ha⟩⟩

/-! ### PROCESS (47_commands R366) -/

/-- M without the zeros at its end reads the same, as an entry past the end reads 0 (20_memory R81). -/
theorem trimMag_getD (l : List (BitVec 16)) (k : Nat) : (trimMag l).getD k 0 = l.getD k 0 := by
  induction l generalizing k with
  | nil => rfl
  | cons x xs ih =>
    rw [trimMag_cons]
    split
    · next hzero =>
      obtain ⟨hx, hxs⟩ := hzero
      cases k with
      | zero => exact hx.symm
      | succ k => rw [List.getD_cons_succ, ← ih, hxs]; rfl
    · cases k with
      | zero => rfl
      | succ k => exact ih k

theorem State.magAt_writeMags (s : State) (ms : List (BitVec 16)) (k : Nat) :
    (s.writeMags ms).magAt k = (ms ++ s.mag.drop ms.length).getD k 0 :=
  trimMag_getD _ k

/-- The magnitudes of a PROCESS stand at the start of M. -/
theorem State.magAt_writeMags_new {s : State} {ms : List (BitVec 16)} {k : Nat} {x : BitVec 16} (h : ms[k]? = some x) :
    (s.writeMags ms).magAt k = x := by
  obtain ⟨hk, _⟩ := List.getElem?_eq_some_iff.1 h
  rw [State.magAt_writeMags, List.getD_eq_getElem?_getD, List.getElem?_append_left hk, h]
  rfl

/-- The entries from N on keep their values (20_memory R81). -/
theorem State.magAt_writeMags_old {s : State} {ms : List (BitVec 16)} {k : Nat} (h : ms.length ≤ k) :
    (s.writeMags ms).magAt k = s.magAt k := by
  rw [State.magAt_writeMags, List.getD_eq_getElem?_getD, List.getElem?_append_right h, List.getElem?_drop,
    Nat.add_sub_cancel' h, ← List.getD_eq_getElem?_getD]
  rfl

theorem execProcess_oddLength {a b : U64} {s : State} (hidle : s.status.busy = false) (hodd : a.toNat % 2 = 1) :
    exec (.process a b) s = .next (failed s .errOddLength 0x15) := by
  refine (whenIdle_of_idle hidle _).trans ?_
  rw [if_pos (by omega)]
  rfl

theorem execProcess_badLength {a b : U64} {s : State} (hidle : s.status.busy = false) (heven : a.toNat % 2 = 0)
    (hlong : 262622 < a.toNat) : exec (.process a b) s = .next (failed s .errAddr 0x14) := by
  refine (whenIdle_of_idle hidle _).trans ?_
  rw [if_neg (by omega), if_pos hlong]
  rfl

theorem execProcess_timeRegress {a b : U64} {s : State} (hidle : s.status.busy = false) (heven : a.toNat % 2 = 0)
    (hfits : a.toNat ≤ 262622) (hearly : b.toNat < s.regs.lastTime.toNat) :
    exec (.process a b) s = .next (failed s .errTimeRegress 0x16) := by
  refine (whenIdle_of_idle hidle _).trans ?_
  rw [if_neg (by omega), if_neg (Nat.not_lt.2 hfits), if_pos hearly]
  rfl

section Checked

variable {a b : U64} {s : State} (hidle : s.status.busy = false) (heven : a.toNat % 2 = 0)
  (hfits : a.toNat ≤ 262622) (hlater : s.regs.lastTime.toNat ≤ b.toNat)

include hidle heven hfits hlater

theorem execProcess_unwritten {k : Nat} (h : magnitudes s.ram (a.toNat / 2) 0 = .error k) :
    exec (.process a b) s = .fault (.unwrittenSample k) := by
  refine (whenIdle_of_idle hidle _).trans ?_
  rw [if_neg (by omega), if_neg (Nat.not_lt.2 hfits), if_neg (Nat.not_lt.2 hlater), h]

theorem execProcess_starts {ms : List (BitVec 16)} (h : magnitudes s.ram (a.toNat / 2) 0 = .ok ms) :
    exec (.process a b) s = .next ((s.startProcess ms (a.toNat / 2) b).respond .ok 0 none) := by
  refine (whenIdle_of_idle hidle _).trans ?_
  rw [if_neg (by omega), if_neg (Nat.not_lt.2 hfits), if_neg (Nat.not_lt.2 hlater), h]
  rfl

end Checked

/-- The two endings of the magnitude computation over the first n samples: every byte is written, or a byte is not. -/
theorem magnitudes_buffer (s : State) (n : Nat) :
    (∃ ms, magnitudes s.ram n 0 = .ok ms ∧ ms.length = n ∧ ∀ k, k < n →
      ∃ x y, s.readSample (2 * k) = some x ∧ s.readSample (2 * k + 1) = some y ∧ ms[k]? = some (magOf x y)) ∨
    ∃ k, magnitudes s.ram n 0 = .error k ∧ s.readSample k = none ∧ k < 2 * n := by
  rcases magnitudes_cases s.ram n 0 with ⟨ms, hok, hlength, hentry⟩ | ⟨k, herror, hnone, _, hk⟩
  · refine .inl ⟨ms, hok, hlength, fun k hk => ?_⟩
    simpa only [Nat.zero_add, State.readSample] using hentry k hk
  · exact .inr ⟨k, herror, hnone, by omega⟩

/-- Settles O17: the checks in their order; the magnitude computation succeeds only when each byte is written. -/
theorem processRefusesInOrder : Obligations.ProcessRefusesInOrder := by
  refine fun a b s hidle => ⟨execProcess_oddLength hidle, execProcess_badLength hidle,
    execProcess_timeRegress hidle, fun heven hfits hlater ⟨k, hk, hnone⟩ => ?_⟩
  rcases magnitudes_buffer s (a.toNat / 2) with ⟨_, _, _, hentry⟩ | ⟨j, herror, hj, hlt⟩
  · obtain ⟨x, y, hx, hy, _⟩ := hentry (k / 2) (by omega)
    rcases Nat.mod_two_eq_zero_or_one k with hpar | hpar
    · rw [show 2 * (k / 2) = k by omega, hnone] at hx
      cases hx
    · rw [show 2 * (k / 2) + 1 = k by omega, hnone] at hy
      cases hy
  · exact ⟨j, by omega, hj, execProcess_unwritten hidle heven hfits hlater herror⟩

/-- Settles O16: with every byte written the magnitude computation succeeds, and the run starts on its magnitudes. -/
theorem processStartsARun : Obligations.ProcessStartsARun := by
  intro a b s hidle heven hfits hlater hwritten
  rcases magnitudes_buffer s (a.toNat / 2) with ⟨ms, hok, hlength, hentry⟩ | ⟨k, _, hnone, hlt⟩
  · refine ⟨_, execProcess_starts hidle heven hfits hlater hok, rfl, rfl, rfl, fun k x y hk hx hy => ?_,
      fun k hk => State.magAt_writeMags_old (hlength.trans_le hk), rfl, rfl, rfl, rfl, rfl, rfl, rfl, fun _ => rfl⟩
    obtain ⟨x', y', hx', hy', hmag⟩ := hentry k hk
    obtain rfl : x = x' := Option.some.inj (hx.symm.trans hx')
    obtain rfl : y = y' := Option.some.inj (hy.symm.trans hy')
    exact State.magAt_writeMags_new hmag
  · exact absurd hnone (hwritten k (by omega))

/-! ### SWEEP (47_commands R368, 46_tracker R339) -/

theorem isStale_iff (s : State) (t : U64) (a : Track) :
    isStale s.regs.trackTtlMs.toNat t a = true ↔ StaleAt s t a := by
  rw [isStale, decide_eq_true_iff, ageOf, StaleAt]
  omega

/-- In canonical form every entry of a table is the one found under its index. -/
theorem Sparse.lookup_eq_some_iff {α : Type} {m : Sparse α} (hm : Sparse.wf m) (i : Nat) (v : α) :
    Sparse.lookup m i = some v ↔ (i, v) ∈ m := by
  refine ⟨Sparse.lookup_mem, fun hmem => ?_⟩
  induction m with
  | nil => cases hmem
  | cons e r ih =>
    obtain ⟨k, x⟩ := e
    obtain ⟨hlower, hr⟩ := List.pairwise_cons.1 hm
    rcases List.mem_cons.1 hmem with h | h
    · cases h
      exact if_pos rfl
    · rw [Sparse.lookup, if_neg (Nat.ne_of_lt (hlower _ h))]
      exact ih hr h

/-- Sweeping keeps exactly the slots whose track is not stale. -/
theorem sweepKeeps_lookup {s : State} (t : U64) (hs : Sparse.wf s.tracks) (i : Nat) (a : Track) :
    Sparse.lookup (sweepKeeps s.regs.trackTtlMs.toNat t s.tracks) i = some a ↔
      Sparse.lookup s.tracks i = some a ∧ ¬StaleAt s t a := by
  rw [sweepKeeps, Sparse.lookup_eq_some_iff (hs.filter _), Sparse.lookup_eq_some_iff hs, ← isStale_iff, List.mem_filter,
    Bool.not_eq_true', Bool.not_eq_true]

theorem execSweep_timeRegress {b : U64} {s : State} (hidle : s.status.busy = false)
    (hearly : b.toNat < s.regs.lastTime.toNat) : exec (.sweep b) s = .next (failed s .errTimeRegress 0x16) :=
  (whenIdle_of_idle hidle _).trans (if_pos hearly)

/-- SWEEP counts and answers the number of slots removed. -/
theorem execSweep_sweeps {b : U64} {s : State} {kept : Sparse Track} {n : Nat} (hidle : s.status.busy = false)
    (hlater : s.regs.lastTime.toNat ≤ b.toNat) (hkept : kept = sweepKeeps s.regs.trackTtlMs.toNat b s.tracks)
    (hn : n = s.tracks.length - kept.length) :
    exec (.sweep b) s = .next
      { answered s .ok (BitVec.ofNat 64 n) none with
        regs := { s.regs with lastTime := b }
        tracks := kept
        counters := Counters.addTo s.counters .trackRemoved n } := by
  subst hn hkept
  exact (whenIdle_of_idle hidle _).trans (if_neg (Nat.not_lt.2 hlater))

theorem Counters.value_addTo_eq_add (cs : Counters) (c d : Cnt) (k : Nat) :
    Counters.value (Counters.addTo cs c k) d = Counters.value cs d + BitVec.ofNat 32 (if d = c then k else 0) := by
  rw [Counters.value_addTo]
  by_cases h : d = c
  · rw [if_pos h.symm, if_pos h]
  · rw [if_neg (Ne.symm h), if_neg h]
    exact (BitVec.add_zero _).symm

/-- Settles O19: the slots kept are the entries that are not stale, and the rest are counted. -/
theorem sweepRemovesStaleTracks : Obligations.SweepRemovesStaleTracks := by
  refine fun b s hidle => ⟨execSweep_timeRegress hidle, fun hlater htracks => ?_⟩
  have hfewer : (sweepKeeps s.regs.trackTtlMs.toNat b s.tracks).length ≤ s.tracks.length := List.length_filter_le ..
  exact ⟨_, _, execSweep_sweeps hidle hlater rfl rfl, Nat.add_sub_cancel' hfewer, rfl, rfl,
    sweepKeeps_lookup b htracks, fun c => Counters.value_addTo_eq_add s.counters .trackRemoved c _, rfl, rfl, rfl, rfl,
    rfl, rfl, rfl, fun _ => rfl⟩

/-! ### TRACK_READ and TRACK_SLOT (47_commands R370, R371) -/

theorem State.snapshot_eq (s : State) (i : Nat) (a : Track) : s.snapshot i a = snapshotAt s i a := by
  simp only [State.snapshot, trackState, isStale_iff, StaleAt, snapshotAt]

theorem addressOf_toNat {a : U64} (h : a.toNat < 2 ^ 24) : (addressOf a).toNat = a.toNat := by
  rw [addressOf, BitVec.extractLsb'_toNat, Nat.shiftRight_zero, Nat.mod_eq_of_lt h]

theorem execTrackRead_badAddress {a : U64} {s : State} (ha : 2 ^ 24 ≤ a.toNat) :
    exec (.trackRead a) s = .next (failed s .errBadValue 0x13) := by
  change execTrackRead a s = _
  rw [execTrackRead, addressOk_eq_false ha]
  rfl

theorem execTrackRead_found {a : U64} {s : State} {i : Nat} {tr : Track} (ha : a.toNat < 2 ^ 24)
    (h : findTrack s.tracks (addressOf a) = some (i, tr)) :
    exec (.trackRead a) s = .next (answered s .ok 0 (some (.track (snapshotAt s i tr)))) := by
  change execTrackRead a s = _
  rw [execTrackRead, (addressOk_iff a).2 ha, h, ← s.snapshot_eq]
  rfl

theorem execTrackRead_none {a : U64} {s : State} (ha : a.toNat < 2 ^ 24)
    (h : findTrack s.tracks (addressOf a) = none) : exec (.trackRead a) s = .next (answered s .none 0 none) := by
  change execTrackRead a s = _
  rw [execTrackRead, (addressOk_iff a).2 ha, h]
  rfl

theorem execTrackSlot_badSlot {a : U64} {s : State} (ha : 1024 ≤ a.toNat) :
    exec (.trackSlot a) s = .next (failed s .errAddr 0x14) :=
  if_pos ha

theorem execTrackSlot_found {a : U64} {s : State} {tr : Track} (ha : a.toNat < 1024)
    (h : Sparse.lookup s.tracks a.toNat = some tr) :
    exec (.trackSlot a) s = .next (answered s .ok 0 (some (.track (snapshotAt s a.toNat tr)))) := by
  change execTrackSlot a s = _
  rw [execTrackSlot, if_neg (Nat.not_le.2 ha), h, ← s.snapshot_eq]
  rfl

theorem execTrackSlot_none {a : U64} {s : State} (ha : a.toNat < 1024) (h : Sparse.lookup s.tracks a.toNat = none) :
    exec (.trackSlot a) s = .next (answered s .none 0 none) := by
  change execTrackSlot a s = _
  rw [execTrackSlot, if_neg (Nat.not_le.2 ha), h]
  rfl

/-- Settles O21: with one slot per address the slot found is the only one, and each slot is listed once. -/
theorem trackReadsAnswerSnapshots : Obligations.TrackReadsAnswerSnapshots := by
  refine fun a s htracks => ⟨execTrackRead_badAddress, fun i tr hmem hicao => ?read, fun ha hnew => ?unknown,
    execTrackSlot_badSlot, fun tr hmem => ?slot, fun ha hfree => ?free⟩
  case read =>
    have ha : a.toNat < 2 ^ 24 := hicao ▸ tr.icao.isLt
    have haddress : tr.icao = addressOf a := BitVec.eq_of_toNat_eq (hicao.trans (addressOf_toNat ha).symm)
    exact execTrackRead_found ha (haddress ▸ findTrack_of_mem htracks.unique hmem)
  case unknown =>
    refine execTrackRead_none ha (findTrack_eq_none fun e he haddress => hnew e he ?_)
    rw [haddress, addressOf_toNat ha]
  case slot =>
    exact execTrackSlot_found (htracks.slots _ hmem) ((Sparse.lookup_eq_some_iff htracks.order _ _).2 hmem)
  case free =>
    refine execTrackSlot_none ha (Option.eq_none_iff_forall_ne_some.2 fun tr hlookup => ?_)
    exact hfree _ (Sparse.lookup_mem hlookup) rfl

end Sys2Proof.Machine

/-! Progress of the scan (60_exceptions R404, 41_preamble R186, 70_reset R423, R430): an idle turn, a skipped offset and an
attempt each give a next state; a scan step moves J on or turns its candidate into a retry; a step faults only on a byte
never written. -/

namespace Sys2Proof.Machine

/-! ### Idle turns and skipped offsets (60_exceptions R404, 41_preamble R186) -/

/-- At the pipeline's turn a step is that turn, at the state with the turn taken off (log 1). -/
theorem step_eq_pipelineTurn {s : State} (h : PipelinesTurn s) :
    step s = { s with schedule := s.schedule.tail }.pipelineTurn.outcome := by
  rw [step_eq_outcome, State.fetch_pipelinesTurn h]

theorem State.pipelineTurn_of_idle (s : State) (h : s.status.busy = false) : s.pipelineTurn = .done s :=
  if_neg (by simp [h])

/-- In a Scanning state the end of a scan step decides BUSY alone. -/
theorem State.finish_of_scanning {s : State} (hbusy : s.status.busy = true) (hscan : s.scan.pst = .scanning) :
    s.finish =
      { s with status := { s.status with busy := decide (s.scan.j.toNat + 240 ≤ s.scan.n.toNat) } } := by
  unfold State.finish
  split
  · next hends => rw [decide_eq_false (Nat.not_le.2 hends), ← hscan]
  · next hfits => rw [decide_eq_true (Nat.le_of_not_lt hfits), ← hbusy]

/-- A Scanning step whose preamble test fails goes to the next offset. -/
theorem ScansNext.fetch_skip {s : State} (h : ScansNext s) (hscan : s.scan.pst = .scanning)
    (hpreamble : preambleOk 4 s.magBehind = false) :
    s.fetch = .done ({ s with schedule := s.schedule.tail }.moveTo (s.scan.j + 1) s.scan.pst).finish := by
  have hrunning : ¬s.status.cancelReq = true := Bool.eq_false_iff.1 h.notCancelled
  have hfails : ¬preambleOk Config.QUIET_DIVISOR s.magBehind = true := Bool.eq_false_iff.1 hpreamble
  exact h.fetch.trans ((if_neg hrunning).trans ((if_pos hscan).trans (if_neg hfails)))

theorem pulsesOk_iff (m : Nat → Nat) :
    pulsesOk m = true ↔
      m 0 > m 1 ∧ m 1 < m 2 ∧ m 2 > m 3 ∧ m 3 < m 0 ∧ m 4 < m 0 ∧ m 5 < m 0 ∧ m 6 < m 0 ∧ m 7 > m 8 ∧ m 8 < m 9 ∧
        m 9 > m 6 := by
  simp only [pulsesOk, Bool.and_eq_true, decide_eq_true_eq, and_assoc, gt_iff_lt]

theorem quietOk_iff (m : Nat → Nat) :
    quietOk 4 m = true ↔ ∀ x ∈ [4, 5, 11, 12, 13, 14], m x < (m 0 + m 2 + m 7 + m 9) / 4 := by
  rw [quietOk, List.all_eq_true]
  exact forall₂_congr fun _ _ => decide_eq_true_iff

/-- Settles O7: the idle branch of the pipeline's turn, the failing branch of the scan step, and the two tests that make up
the preamble test. -/
theorem idleAndSkippedOffsets : Obligations.IdleAndSkippedOffsets := by
  refine ⟨fun s hturn hidle => ?idle, fun s hnext hscan hpreamble => ?skip, fun s m hm => ?test⟩
  case idle =>
    rw [step_eq_pipelineTurn hturn, State.pipelineTurn_of_idle { s with schedule := s.schedule.tail } hidle,
      Fetched.outcome_done]
  case skip =>
    rw [step_eq_outcome, hnext.fetch_skip hscan hpreamble, Fetched.outcome_done]
    have hends := State.finish_of_scanning
      (s := { s with schedule := s.schedule.tail }.moveTo (s.scan.j + 1) s.scan.pst) hnext.busy hscan
    rw [hends, State.moveTo]
  case test =>
    obtain rfl : m = s.magBehind := funext hm
    rw [preambleOk, Bool.and_eq_true, pulsesOk_iff, quietOk_iff]

/-! ### Attempts move the scan on (41_preamble R186, 70_reset R430) -/

/-- An attempt ends as a received frame does, at its own state up to the datapath: its two early rejections are
rejections too. -/
theorem State.attempt_ends (s : State) : ∃ d, ReceivedCase { s with dp := d } s.attempt.outcome := by
  rw [s.attempt_eq _ rfl]
  generalize (if s.regs.ctrl.getLsbD 0 = true then 2 else 0) = limit
  split
  · exact ⟨_, .rejects .rejErrBits⟩
  · split
    · exact ⟨_, .rejects .rejEnergy⟩
    · exact ⟨_, exec_decodeReceived_case _ _⟩

/-- The window at J is inside the buffer, so that J has room to advance (41_preamble R185). -/
def WindowFits (c : Scan) : Prop := c.j.toNat + 240 ≤ c.n.toNat ∧ c.n.toNat ≤ 131311

/-- t is Scanning at a later offset of the run whose scan registers were c. -/
def MovesOn (c : Scan) (t : State) : Prop :=
  t.scan.n = c.n ∧ t.scan.pst = .scanning ∧ c.j.toNat < t.scan.j.toNat

/-- t goes on at the offset of c, as a retry. -/
def Retries (c : Scan) (t : State) : Prop :=
  t.scan.n = c.n ∧ t.scan.pst = .correcting ∧ t.scan.j = c.j ∧ t.status.busy = true

/-- J does not wrap where a step advances it, which is by one window at most. -/
theorem WindowFits.lt_advanced {c : Scan} (h : WindowFits c) {k : Nat} (hpos : 0 < k) (hk : k ≤ 240) :
    c.j.toNat < (c.j + BitVec.ofNat 32 k).toNat := by
  obtain ⟨hwindow, hbuffer⟩ := h
  rw [BitVec.toNat_add, BitVec.toNat_ofNat]
  omega

theorem WindowFits.moveTo_next_movesOn {s : State} (h : WindowFits s.scan) :
    MovesOn s.scan (s.moveTo (s.scan.j + 1) .scanning).finish := by
  rw [MovesOn, State.finish_scan]
  exact ⟨rfl, ite_self _, h.lt_advanced (by decide) (by decide)⟩

theorem WindowFits.moveTo_correcting_retries {s : State} (h : WindowFits s.scan) (hbusy : s.status.busy = true) :
    Retries s.scan (s.moveTo s.scan.j .correcting).finish := by
  obtain ⟨hwindow, _⟩ := h
  rw [Retries, State.finish_scan, State.finish_busy]
  exact ⟨rfl, if_pos hwindow, rfl, by simp [hbusy, hwindow]⟩

theorem Frame.nbits_le (f : Frame) : f.nbits ≤ 112 := by
  cases f <;> simp [Frame.nbits]

/-- An acceptance skips the 16 preamble samples and two samples for each bit of its frame. -/
theorem WindowFits.accept_movesOn {s : State} (h : WindowFits s.scan) (m : Message) : MovesOn s.scan (s.accept m) := by
  have hbits := m.frame.nbits_le
  rw [MovesOn, State.accept_scan]
  exact ⟨rfl, rfl, h.lt_advanced (by omega) (by omega)⟩

/-- A rejection retries a first attempt, and otherwise advances J by one. -/
theorem WindowFits.reject_cases {s : State} (h : WindowFits s.scan) (hbusy : s.status.busy = true) (c : Cnt) :
    MovesOn s.scan (s.reject c) ∨ (s.scan.pst = .candidateFound ∧ Retries s.scan (s.reject c)) := by
  rw [State.reject]
  rcases (s.count c).afterReject_cases with ⟨hfirst, _, hretry⟩ | ⟨_, hskip⟩
  · rw [hretry]
    exact .inr ⟨hfirst, WindowFits.moveTo_correcting_retries (s := s.count c) h hbusy⟩
  · rw [hskip]
    exact .inl (WindowFits.moveTo_next_movesOn (s := s.count c) h)

/-- What 70_reset R430 asks of a scan step from s that answers r. -/
def Advances (s : State) (r : Result) : Prop :=
  ∃ t, r = .next t ∧ (MovesOn s.scan t ∨ (s.scan.pst = .scanning ∧ Retries s.scan t))

/-- An attempt moves the scan on, or retries where it was the first at its offset. -/
theorem WindowFits.attempt_advances {s u : State} {p : ScanState} (h : WindowFits s.scan)
    (hbusy : u.status.busy = true) (hscan : u.scan = { s.scan with pst := p })
    (hfirst : p = .candidateFound → s.scan.pst = .scanning) : Advances s u.attempt.outcome := by
  obtain ⟨d, hends⟩ := u.attempt_ends
  generalize u.attempt.outcome = r at hends
  cases hends with
  | accepts v m hprepared =>
    have hv : v.scan = { s.scan with pst := p } := hprepared.scan.trans hscan
    have hmoves := WindowFits.accept_movesOn (s := v) (by rw [hv]; exact h) m
    rw [hv] at hmoves
    exact ⟨_, rfl, .inl hmoves⟩
  | rejects c =>
    refine ⟨_, rfl, ?_⟩
    have hcases := WindowFits.reject_cases (s := { u with dp := d }) (by rw [hscan]; exact h) hbusy c
    generalize State.reject { u with dp := d } c = t at hcases ⊢
    rw [hscan] at hcases
    exact hcases.imp_right (And.imp_left hfirst)

/-- A failed preamble test moves the scan on; otherwise the step is an attempt, a first one only from Scanning. -/
theorem ScansNext.step_advances {s : State} (hnext : ScansNext s) (hok : ScanOk s) : Advances s (step s) := by
  have hfits : WindowFits s.scan := ⟨hok.window hnext.busy, hok.bufferFits⟩
  rw [step_eq_outcome]
  match hpst : s.scan.pst with
  | .candidateFound => exact absurd hpst hok.notVisible
  | .correcting =>
    rw [hnext.fetch_retry hpst]
    exact hfits.attempt_advances hnext.busy rfl fun hfirst => nomatch hpst.symm.trans hfirst
  | .scanning =>
    cases hpreamble : preambleOk 4 s.magBehind with
    | false =>
      rw [hnext.fetch_skip hpst hpreamble, hpst]
      exact ⟨_, rfl, .inl (WindowFits.moveTo_next_movesOn (s := { s with schedule := s.schedule.tail }) hfits)⟩
    | true =>
      rw [hnext.fetch_candidate hpst hpreamble]
      exact hfits.attempt_advances hnext.busy rfl fun _ => hpst

/-- Settles O53: from a legal scan state J has room to advance, so that each kind of scan step moves on or retries. -/
theorem scanStepsAdvance : Obligations.ScanStepsAdvance := by
  intro s hnext hok
  obtain ⟨t, ht, ⟨hrun, hscan, hlater⟩ | ⟨hfirst, hrun, hretry⟩⟩ := hnext.step_advances hok
  · exact ⟨t, ht, hrun, .inl ⟨hscan, hlater⟩⟩
  · exact ⟨t, ht, hrun, .inr ⟨hfirst, hretry⟩⟩

/-! ### What answers a next state (60_exceptions R390, R398, 70_reset R423) -/

/-- The machine goes on: no fault, no refusal. -/
def GoesOn (r : Result) : Prop := ∃ t, r = .next t

theorem GoesOn.next (t : State) : GoesOn (.next t) := ⟨t, rfl⟩

theorem GoesOn.check {c : Prop} [Decidable c] {s : State} {e : Status} {rest : Result} (h : GoesOn rest) :
    GoesOn (if c then cmdError s e else rest) := by
  split
  · exact .next _
  · exact h

theorem GoesOn.whenIdle {s : State} {body : Result} (h : GoesOn body) : GoesOn (Machine.whenIdle s body) := .check h

theorem GoesOn.of_received {s : State} {r : Result} (h : ReceivedCase s r) : GoesOn r := by
  cases h with
  | accepts => exact .next _
  | rejects => exact .next _

theorem State.attempt_goesOn (s : State) : GoesOn s.attempt.outcome := by
  obtain ⟨_, hends⟩ := s.attempt_ends
  exact .of_received hends

theorem State.scanStep_goesOn (s : State) : GoesOn s.scanStep.outcome := by
  unfold State.scanStep
  split
  · exact .next _
  · split
    · split
      · exact State.attempt_goesOn _
      · exact .next _
    · exact State.attempt_goesOn _

/-- A turn of the pipeline never stops the machine. -/
theorem State.pipelineTurn_goesOn (s : State) : GoesOn s.pipelineTurn.outcome := by
  unfold State.pipelineTurn
  split
  · exact s.scanStep_goesOn
  · exact .next _

theorem execRegWrite_goesOn (sel : BitVec 8) (a : U64) (s : State) : GoesOn (execRegWrite sel a s) := by
  refine .whenIdle ?_
  split
  · exact .next _
  · exact .check (.check (.next _))

theorem execRegRead_goesOn (sel : BitVec 8) (s : State) : GoesOn (execRegRead sel s) := by
  unfold execRegRead
  split <;> exact .next _

theorem execMsgPop_goesOn (s : State) : GoesOn (execMsgPop s) := by
  unfold execMsgPop
  split <;> exact .next _

theorem execTrackRead_goesOn (a : U64) (s : State) : GoesOn (execTrackRead a s) := by
  refine .check ?_
  split <;> exact .next _

theorem execTrackSlot_goesOn (a : U64) (s : State) : GoesOn (execTrackSlot a s) := by
  refine .check ?_
  split <;> exact .next _

/-- Every command but the two that read sample bytes goes on. -/
theorem exec_decodeCommand_goesOn (w : U32) (a b : U64) (s : State) :
    GoesOn (exec (decodeCommand w a b) s) ∨ decodeCommand w a b = .sampleRead a ∨ decodeCommand w a b = .process a b := by
  unfold decodeCommand
  split
  · exact .inl (.next _)
  · split
    case h_1 | h_2 | h_8 | h_15 => exact .inl (.next _)
    case h_3 => exact .inl (execRegWrite_goesOn ..)
    case h_4 => exact .inl (execRegRead_goesOn ..)
    case h_5 => exact .inl (.whenIdle (.check (.check (.next _))))
    case h_6 => exact .inr (.inl rfl)
    case h_7 => exact .inr (.inr rfl)
    case h_9 => exact .inl (.whenIdle (.check (.next _)))
    case h_10 => exact .inl (execMsgPop_goesOn s)
    case h_11 => exact .inl (execTrackRead_goesOn ..)
    case h_12 => exact .inl (execTrackSlot_goesOn ..)
    case h_13 => exact .inl (.whenIdle (.check (.next _)))
    case h_14 => exact .inl (.check (.next _))

/-- The machine goes on, or stops on a byte of sample RAM that was never written (70_reset R423). -/
def GoesOnOrUnwritten (s : State) (r : Result) : Prop :=
  GoesOn r ∨ ∃ a, r = .fault (.unwrittenSample a) ∧ s.readSample a = none ∧ a < 262622

theorem execSampleRead_goesOnOrUnwritten (a : U64) (s : State) : GoesOnOrUnwritten s (exec (.sampleRead a) s) := by
  rcases Nat.lt_or_ge a.toNat 262622 with ha | ha
  · match h : s.readSample a.toNat with
    | some v => exact .inl ⟨_, execSampleRead_written ha h⟩
    | none => exact .inr ⟨_, execSampleRead_unwritten ha h, h, ha⟩
  · exact .inl ⟨_, execSampleRead_badAddress ha⟩

/-- PROCESS reads its buffer after its checks, which keep the buffer inside sample RAM (47_commands R366). -/
theorem execProcess_goesOnOrUnwritten (a b : U64) (s : State) : GoesOnOrUnwritten s (exec (.process a b) s) := by
  cases hbusy : s.status.busy with
  | true => exact .inl ⟨_, whenIdle_of_busy hbusy _⟩
  | false =>
    rcases Nat.mod_two_eq_zero_or_one a.toNat with heven | hodd
    · rcases Nat.lt_or_ge 262622 a.toNat with hlong | hfits
      · exact .inl ⟨_, execProcess_badLength hbusy heven hlong⟩
      · rcases Nat.lt_or_ge b.toNat s.regs.lastTime.toNat with hearly | hlater
        · exact .inl ⟨_, execProcess_timeRegress hbusy heven hfits hearly⟩
        · rcases magnitudes_buffer s (a.toNat / 2) with ⟨_, hok, _⟩ | ⟨k, herror, hnone, hk⟩
          · exact .inl ⟨_, execProcess_starts hbusy heven hfits hlater hok⟩
          · exact .inr ⟨k, execProcess_unwritten hbusy heven hfits hlater herror, hnone, by omega⟩
    · exact .inl ⟨_, execProcess_oddLength hbusy hodd⟩

/-- Settles O48: the pipeline's turn and the other commands go on, and the two that read sample bytes stop only on an
unwritten one. -/
theorem onlySampleReadsFault : Obligations.OnlySampleReadsFault := by
  intro s
  match hschedule : s.schedule with
  | [] => exact .inl (step_eq_pipelineTurn (.inl hschedule) ▸ State.pipelineTurn_goesOn _)
  | .pipeline :: rest => exact .inl (step_eq_pipelineTurn (.inr ⟨rest, hschedule⟩) ▸ State.pipelineTurn_goesOn _)
  | .command w x y :: rest =>
    have hstep : step s = exec (decodeCommand w x y) { s with schedule := rest } := by
      rw [step_eq_outcome, State.fetch, hschedule]
      rfl
    rw [hstep]
    rcases exec_decodeCommand_goesOn w x y { s with schedule := rest } with hgoes | hread | hprocess
    · exact .inl hgoes
    · rw [hread]
      refine (execSampleRead_goesOnOrUnwritten x _).imp_right ?_
      rintro ⟨a, hfault, hnone, ha⟩
      exact ⟨a, w, x, y, rest, hfault, hnone, ha, rfl, .inl hread⟩
    · rw [hprocess]
      refine (execProcess_goesOnOrUnwritten x y _).imp_right ?_
      rintro ⟨a, hfault, hnone, ha⟩
      exact ⟨a, w, x, y, rest, hfault, hnone, ha, rfl, .inr hprocess⟩

/-! ### The state after power-on (70_reset R420, R421) -/

theorem State.reset_scanOk : ScanOk State.reset where
  window := nofun
  idle := fun _ => ⟨rfl, rfl⟩
  notVisible := nofun
  bufferFits := by decide

theorem State.reset_memoriesOk : MemoriesOk State.reset where
  ram := State.reset_ram_wf
  cacheOrder := .nil
  cacheSlots := nofun
  magFits := by decide
  magTrimmed := nofun
  magRange := nofun

theorem State.reset_timesOk : TimesOk State.reset where
  now := by simp [State.reset, Scan.reset]
  seen := List.forall_mem_nil _
  even := List.forall_mem_nil _
  odd := List.forall_mem_nil _
  position := List.forall_mem_nil _
  records := List.forall_mem_nil _

theorem State.reset_fifoOk : FifoOk State.reset where
  depth := by decide
  verified := List.forall_mem_nil _
  inFrame := List.forall_mem_nil _
  corrected := List.forall_mem_nil _
  double := List.forall_mem_nil _

/-- Settles O60: an idle scan, empty memories, tables and FIFO, and legal register values. -/
theorem resetMeetsTheInvariants : Obligations.ResetMeetsTheInvariants :=
  ⟨State.reset_scanOk, State.reset_memoriesOk, State.reset.resetKeepingRam_tracksOk, State.reset_timesOk,
    State.reset_fifoOk, State.reset_regsOk⟩

end Sys2Proof.Machine
